-- ==== Sys2Proof/Word.lean ====
section
/-! DEFINITION. The words of the JT-2610 (0.4, R1, R9, R43, R63, R130): bytes, tick counts and the levels of a pin. -/

namespace Sys2Proof

/-- One byte of the serial port. -/
abbrev Byte := BitVec 8

/-- A time value as one count of ticks, seconds × 2^24 + fraction, 0 to 2^56 − 1 (R1). -/
abbrev Ticks := BitVec 56

/-- A duration with a 16-bit seconds part and a 24-bit fraction: period and link offset (R62). -/
abbrev Span := BitVec 40

/-- A trigger offset: 8-bit seconds and 24-bit fraction (R43). -/
abbrev Offset := BitVec 32

/-- The epoch, 0 to 255, wrapping (R1). -/
abbrev Epoch := BitVec 8

/-- An address of the register window, 0x00 to 0x7F (R170). -/
abbrev Addr := BitVec 7

/-- A 16-bit count of an entry (R63). -/
abbrev Count := BitVec 16

/-- The level of a pin or of a line. -/
inductive Level where
  | low
  | high
  deriving DecidableEq, Repr

/-- The other level. -/
def Level.inverse : Level → Level
  | .low => .high
  | .high => .low

/-- LOW for 0, HIGH for 1. -/
def Level.ofBool : Bool → Level
  | false => .low
  | true => .high

/-- 1 for HIGH. -/
def Level.isHigh : Level → Bool
  | .low => false
  | .high => true

/-- The input pins in one REFCLK cycle: bit n of `cap` is CAPn, bit n of `grd` is GRDn, 1 for HIGH; `csLow` says that CS_N
is low. -/
structure InputPins where
  cap : BitVec 6
  grd : BitVec 2
  csLow : Bool
  deriving DecidableEq, Repr

/-- CAP0 to CAP5 and GRD0, GRD1 LOW, and no transaction: CS_N is high. -/
def InputPins.low : InputPins := { cap := 0, grd := 0, csLow := false }

/-- What MISO shows in a REFCLK cycle (R170): high impedance, driven low, or the bits of a read data byte. -/
inductive Miso where
  | highZ
  | low
  | shifting (byte : Byte)
  deriving DecidableEq, Repr, Inhabited

end Sys2Proof
end

