-- ==== Sys2Proof/Syntax.lean ====
section
/-! DEFINITION. The commands of the block: one constructor per row of spec/opcode_table.json, in the table's order. -/

namespace Sys2Proof

/-- Where, in its cycle, the schedule table and the dispatcher take the notice of a TB_LOAD or TB_JUMP: before the
cycle's other events, or after them (R102). -/
inductive NoticeOrder where
  | noticeFirst
  | noticeLast
  deriving DecidableEq, Repr

/-- When the output unit takes the action of a dispatch: at once, or only after a guard trip that falls in the same cycle
(R106, R122). -/
inductive ActionOrder where
  | actionFirst
  | afterTrip
  deriving DecidableEq, Repr

/-- When the SLEW_END of a slew that ends on a cycle is taken in it: before the cycle's other events, or after them (R138,
R140, R142, R143, R146, R162). A SLEW_END always follows a wrap of its cycle (R23). -/
inductive EndOrder where
  | endFirst
  | endLast
  deriving DecidableEq, Repr

/-- The operands of the rows that open a counting cycle: the input pins, and when a SLEW_END of the cycle is taken. -/
structure CountingOperands where
  pins : InputPins
  order : EndOrder
  deriving DecidableEq, Repr

/-- How a soft reset meets the offers of its cycle that wait at the queue's port: after them, so that it removes them, or
before them, so that they are stored in the emptied queue (R146). -/
inductive ResetOrder where
  | offersFirst
  | resetFirst
  deriving DecidableEq, Repr

/-- The operands of SOFT_RESET: its argument byte, and how it meets the waiting offers. -/
structure SoftResetOperands where
  arg : Byte
  order : ResetOrder
  deriving DecidableEq, Repr

/-- The six bytes of a capture line's configuration after its control byte: +1 to +6 of page 1 (R180). -/
inductive CapByte where
  | edgesLog
  | target
  | offsetSeconds
  | offsetHigh
  | offsetMid
  | offsetLow
  deriving DecidableEq, Repr

/-- The three trim bytes, 0x0E, 0x0F and 0x10 of page 2 (R180). -/
inductive TrimByte where
  | signHigh
  | low
  | window
  deriving DecidableEq, Repr

/-- The mode of an output line (R112). -/
inductive Mode where
  | driven
  | off
  deriving DecidableEq, Repr

/-- The commands of the block. The bytes `arg` and `data` are the data byte that the serial port hands to the owner. -/
inductive Instr where
  | countingCycle (operands : CountingOperands)
  | frozenCycle (pins : InputPins)
  | trimWindowEnd
  | slewModification (operands : CountingOperands)
  | deferredSlewModification (operands : CountingOperands)
  | wrap
  | tbStart (arg : Byte)
  | tbStop (arg : Byte)
  | tbLoad (arg : Byte) (order : NoticeOrder)
  | tbJump (arg : Byte) (order : NoticeOrder)
  | tbSlew (arg : Byte)
  | tbLoadEdge (arg : Byte)
  | tbCancelEdge (arg : Byte)
  | captureSample (line : Fin 6)
  | guardSample
  | dispatch (order : ActionOrder)
  | pulseEnd (line : Fin 8)
  | schArm (arg : Byte)
  | schPark (arg : Byte)
  | schCancel (arg : Byte)
  | schCancelAll (arg : Byte)
  | schFree (arg : Byte)
  | schView (arg : Byte)
  | schHold (arg : Byte)
  | schResume (arg : Byte)
  | outSet (arg : Byte)
  | outClear (arg : Byte)
  | qPop (arg : Byte)
  | qFlush (arg : Byte)
  | grdRelease (arg : Byte)
  | softReset (operands : SoftResetOperands)
  | captureEnable (line : Fin 6) (divisor : BitVec 3) (qualMinus1 : BitVec 3)
  | captureDisable (line : Fin 6) (divisor : BitVec 3) (qualMinus1 : BitVec 3)
  | samplingRestart (line : Fin 6) (divisor : BitVec 3) (qualMinus1 : BitVec 3)
  | captureConfigWrite (line : Fin 6) (reg : CapByte) (data : Byte)
  | guardEnable (line : Fin 2) (active : Level) (qual : BitVec 4)
  | guardDisable (line : Fin 2) (active : Level) (qual : BitVec 4)
  | guardReconfig (line : Fin 2) (active : Level) (qual : BitVec 4)
  | trimWrite (reg : TrimByte) (data : Byte)
  | slewRateWrite (data : Byte)
  | safeLevelWrite (half : Fin 2) (data : Byte)
  | modeWrite (line : Fin 8) (mode : Mode)
  | idleLevelWrite (line : Fin 8) (level : Level)
  | queueConfigWrite (data : Byte)
  | pendingClear (data : Byte)
  | enableWrite (data : Byte)
  | pageSelectWrite (data : Byte)
  | registerWrite (addr : Addr) (data : Byte)
  | timeSnapshot (offset : BitVec 3)
  | headLatch (offset : BitVec 4)
  | transactionEnd
  | powerOnReset
  | pinReset
  | pinResetRelease
  | addressByte (byte : Byte)
  | readDataByte
  deriving DecidableEq, Repr

end Sys2Proof
end

