-- ==== Sys2Proof/Decode.lean ====
section
/-! DEFINITION. The reading of the table's words. No row of the table gives bits: the block takes commands, not words. -/

namespace Sys2Proof

/-- The command a word of `nbits` bits spells by the table's bits: none, for no row gives bits (log entry 1). -/
def decodeTableWord (_nbits _w : Nat) : Option Instr := none

end Sys2Proof
end

