-- ==== Sys2Proof/Config.lean ====
section
/-! DEFINITION. What the part fixes once and for all, and the values the spec leaves open. -/

namespace Sys2Proof.Config

/-- Ticks to a second: 2^24 (0.4). -/
def ticksPerSecond : Nat := 16777216

/-- One past the largest time value, 2^56 (R1). -/
def timeModulus : Nat := 72057594037927936

/-- The largest time value TB_LOAD_EDGE takes: 4,294,967,295 s + 16,776,319 ticks (R36). -/
def edgeLoadBound : Nat := 72057594037927039

/-- The largest magnitude of a slew and of a STEP record's argument: 8,388,607 (R4, R23). -/
def amountBound : Nat := 8388607

/-- The largest lateness of a FIRE record: 16,777,215 ticks (R90). -/
def latenessBound : Nat := 16777215

/-- The places of the time record queue (R127). -/
def queuePlaces : Nat := 32

/-- The identity bytes at 0x26 to 0x2A of page 2 (R180). -/
def identity : List Byte := [86, 74, 26, 10, 1]

/-- FREE VALUE (log entry 13): what bits 4:0 of a capture line's trigger target byte read while the target is none,
given the counter of the read and the bits last written. The spec states none. -/
opaque targetBitsWhenNone : Nat → BitVec 5 → BitVec 5

/-- FREE VALUE (log entry 14): what bits 4:0 of the dispatcher's head index byte read while the due queue is empty.
The spec states none. -/
opaque headBitsWhenEmpty : Nat → BitVec 5

/-- FREE VALUE (log entry 15): what a byte of the view record reads, given the counter of the read and its offset, where
the byte belongs to a field that is absent in the viewed entry and the entry is not FREE. The spec states none. -/
opaque viewByteWhenAbsent : Nat → Nat → Byte

/-- FREE VALUE (log entry 31): what MISO shows while CS_N is low but ignored after a pin reset, given the model's
counter. The spec states none. -/
opaque misoWhenIgnored : Nat → Miso

end Sys2Proof.Config
end

