-- ==== Sys2Proof/Machine/Bank.lean ====
section
/-! DEFINITION. A bank of `n` like things (output lines, capture lines, entries): a list that carries its own length. -/

namespace Sys2Proof.Machine

/-- Exactly `n` values of `α`, numbered 0 to n − 1. -/
abbrev Bank (α : Type) (n : Nat) : Type := { l : List α // l.length = n }

/-- Number `i` of the bank. -/
def Bank.get {α : Type} {n : Nat} (b : Bank α n) (i : Fin n) : α :=
  b.val[i.val]'(by rw [b.property]; exact i.isLt)

/-- The bank with number `i` replaced. -/
def Bank.set {α : Type} {n : Nat} (b : Bank α n) (i : Fin n) (x : α) : Bank α n :=
  ⟨b.val.set i.val x, by rw [List.length_set]; exact b.property⟩

/-- The bank with `f` applied to each of its things. -/
def Bank.map {α β : Type} {n : Nat} (f : α → β) (b : Bank α n) : Bank β n :=
  ⟨b.val.map f, by rw [List.length_map]; exact b.property⟩

/-- The bank that holds `f i` at number `i`. -/
def Bank.ofFn {α : Type} {n : Nat} (f : Fin n → α) : Bank α n :=
  ⟨List.ofFn f, List.length_ofFn⟩

/-- `n` copies of one thing. -/
def Bank.fill {α : Type} (n : Nat) (x : α) : Bank α n :=
  ⟨List.replicate n x, List.length_replicate⟩

/-- The bank with number `i` changed by `f`. -/
def Bank.modify {α : Type} {n : Nat} (b : Bank α n) (i : Fin n) (f : α → α) : Bank α n :=
  b.set i (f (b.get i))

/-- How many things of the bank satisfy `p`. -/
def Bank.count {α : Type} {n : Nat} (b : Bank α n) (p : α → Bool) : Nat :=
  b.val.countP p

/-- Every thing of the bank satisfies `p`. -/
def Bank.all {α : Type} {n : Nat} (b : Bank α n) (p : α → Bool) : Bool :=
  b.val.all p

end Sys2Proof.Machine
end

