-- ==== Sys2Proof/Machine/State.lean ====
section
/-! DEFINITION. The state of the JT-2610 as plain data, and its state right after power-on reset. -/

namespace Sys2Proof.Machine

/-! ## Timebase -/

/-- What SLEWING carries (R4): the ticks still to apply, the rate exponent in force, the count of counting cycles since
TB_SLEW, the amount the slew was started with, and whether a modification stands deferred (R16). -/
structure Slew where
  remainder : Int
  rate : BitVec 5
  count : Nat
  start : Int
  deferred : Bool
  deriving DecidableEq, Repr

/-- What AWAIT_EDGE carries (R4, R35): the pending edge-load target, the awaited line and the attribute. -/
structure EdgeWait where
  target : Ticks
  line : Fin 6
  frozen : Bool
  deriving DecidableEq, Repr

/-- The timebase states (R4). `slewEnding` is SLEWING for the rest of the cycle in which the last modification was
applied: R33 puts the timebase in RUNNING from the next cycle. -/
inductive TbState where
  | stopped
  | running
  | slewing (slew : Slew)
  | slewEnding
  | awaitEdge (wait : EdgeWait)
  deriving DecidableEq, Repr

/-- The trim window W: 1 s, 8 s or 64 s (R10). -/
inductive TrimWindow where
  | one
  | eight
  | sixtyFour
  deriving DecidableEq, Repr

/-- A trim pair: T as a sign and a magnitude, and W (R10). -/
structure Trim where
  negative : Bool
  magnitude : BitVec 12
  window : TrimWindow
  deriving DecidableEq, Repr

/-- The staged time: sign flag, and seconds and fraction as one count (R9). -/
structure StagedTime where
  negative : Bool
  value : Ticks
  deriving DecidableEq, Repr

/-- The timebase (R1, R4, R9, R10, R12, R14). `position` is the number of cycles counted in the trim window.
`cancelOwed` stands from a pin reset that cancelled an edge-aligned load until RESET_N rises (R20). -/
structure Timebase where
  state : TbState
  time : Ticks
  epoch : Epoch
  written : Trim
  inForce : Trim
  trimPending : Bool
  position : Nat
  rate : BitVec 5
  staged : StagedTime
  cancelOwed : Bool
  deriving DecidableEq, Repr

/-! ## Capture lines -/

/-- The edge set of a capture line (R43). -/
inductive EdgeSet where
  | rising
  | falling
  | both
  deriving DecidableEq, Repr

/-- A run of samples toward a new level (R44). -/
structure Run where
  candidate : Level
  time : Ticks
  epoch : Epoch
  frozen : Bool
  count : Nat
  deriving DecidableEq, Repr

/-- A capture line: its configuration (R43; `qualMinus1` is q − 1, the target is none where `targetNone`), its
qualified level and run (R44), its interval count modulo 2^d, and whether a sample falls in this cycle and has not
been taken (R45). -/
structure CapLine where
  enabled : Bool
  edges : EdgeSet
  divisor : BitVec 3
  qualMinus1 : BitVec 3
  log : Bool
  targetNone : Bool
  target : BitVec 5
  offset : Offset
  level : Option Level
  run : Option Run
  interval : BitVec 7
  due : Bool
  deriving DecidableEq, Repr

/-! ## Schedule table -/

/-- ONCE or PERIODIC, the latter with its period and its limit, which may be absent (R62). -/
inductive Cadence where
  | once
  | periodic (period : Span) (limit : Option Count)
  deriving DecidableEq, Repr

/-- The action of an entry, with the line and the pulse width where the action has them (R62). -/
inductive Deed where
  | none
  | set (line : Fin 8)
  | clear (line : Fin 8)
  | toggle (line : Fin 8)
  | pulse (line : Fin 8) (width : BitVec 24)
  deriving DecidableEq, Repr

/-- FIRE_LATE or DROP (R62). -/
inductive LatePolicy where
  | fireLate
  | drop
  deriving DecidableEq, Repr

/-- The link of an entry: the entry to arm and the link offset (R62). -/
structure Link where
  entry : Fin 32
  offset : Span
  deriving DecidableEq, Repr

/-- The host-given fields of an entry (R62): a field that is absent has no place. -/
structure Plan where
  cadence : Cadence
  due : Ticks
  deed : Deed
  late : LatePolicy
  link : Option Link
  notify : Bool
  epochBound : Bool
  deriving DecidableEq, Repr

/-- The device-kept fields of an entry, less the outcome and the late mark, which stand in `Entry` (R63). -/
structure Kept where
  remaining : Option Count
  fires : Count
  skips : Count
  lastFire : Option Ticks
  armedEpoch : Option Epoch
  deriving DecidableEq, Repr

/-- The outcome of a DONE entry (R64). -/
inductive Fate where
  | completed
  | cancelled
  | skipped
  | stale
  deriving DecidableEq, Repr

/-- A schedule entry in one of its four states (R61). The late mark exists only while ARMED (R63). -/
inductive Entry where
  | free
  | parked (plan : Plan) (kept : Kept)
  | armed (plan : Plan) (kept : Kept) (late : Bool)
  | done (fate : Fate) (plan : Plan) (kept : Kept)
  deriving DecidableEq, Repr

/-- The action codes of the staging record (R65). -/
inductive ActionCode where
  | none
  | set
  | clear
  | toggle
  | pulse
  deriving DecidableEq, Repr

/-- The entry-composition fields of the staging record (R65). -/
structure Staging where
  periodic : Bool
  drop : Bool
  action : ActionCode
  notify : Bool
  epochBound : Bool
  line : BitVec 6
  limitPresent : Bool
  linkPresent : Bool
  link : Byte
  due : Ticks
  width : BitVec 24
  period : Span
  limit : Count
  linkOffset : Span
  deriving DecidableEq, Repr

/-- The view record: an index and the entry as it stood at SCH_VIEW (R80). -/
structure View where
  index : Fin 32
  entry : Entry
  deriving DecidableEq, Repr

/-- The schedule table (R61, R65, R80). -/
structure Schedule where
  entries : Bank Entry 32
  staging : Staging
  view : View
  deriving DecidableEq, Repr

/-! ## Dispatcher -/

/-- SCH_FAULT: the last scheduling fault (R108). -/
inductive SchedFault where
  | none
  | linkMiss (entry : Fin 32)
  | trigMiss (line : Fin 6)
  | trigStale (line : Fin 6)
  deriving DecidableEq, Repr

/-- The hold set and SCH_FAULT (R103, R108). The due queue is computed from the entries (R84). -/
structure Dispatcher where
  holdHost : Bool
  holdGuard : Bool
  fault : SchedFault
  deriving DecidableEq, Repr

/-! ## Output lines -/

/-- A pulse in flight: the cycles until it ends, and its active level (R112). The count stands at 0 only in the cycle of
its end, until the end is taken (R119). -/
structure Pulse where
  remaining : BitVec 24
  active : Level
  deriving DecidableEq, Repr

/-- An output line (R112). -/
structure OutLine where
  mode : Mode
  idle : Level
  level : Level
  pulse : Option Pulse
  deriving DecidableEq, Repr

/-! ## Time record queue -/

/-- The source of a STEP record (R23). -/
inductive StepSource where
  | load
  | jump
  | edgeLoad
  | wrap
  | slewEnd
  | slewCancel
  deriving DecidableEq, Repr

/-- What became of the trigger of an edge (R49, R50). -/
inductive Trigger where
  | noMiss
  | miss
  | stale
  deriving DecidableEq, Repr

/-- Kind, source, flags and argument of a record, by its kind (R23, R49, R90, R129). -/
inductive Body where
  | edge (line : Fin 6) (rising timeFrozen : Bool) (trigger : Trigger) (qual : Nat)
  | fire (entry : Fin 32) (late final linkMiss : Bool) (lateness : BitVec 24)
  | guard (line : Fin 2) (timeFrozen : Bool)
  | step (source : StepSource) (backward : Bool) (amount : Int)
  deriving DecidableEq, Repr

/-- A record as a block offers it, before it has its sequence number (R130). -/
structure Offer where
  time : Ticks
  epoch : Epoch
  body : Body
  deriving DecidableEq, Repr

/-- A record of the queue (R128). -/
structure Record where
  seq : Count
  offer : Offer
  deriving DecidableEq, Repr

/-- The full policy (R127). -/
inductive Policy where
  | keepOldest
  | keepNewest
  deriving DecidableEq, Repr

/-- The time record queue; the head is the first of `records` (R127). -/
structure RecordQueue where
  records : List Record
  nextSeq : Count
  policy : Policy
  threshold : BitVec 6
  autoPop : Bool
  deriving DecidableEq, Repr

/-! ## Guard unit -/

/-- The state of a guard line; QUALIFYING carries its count (R149). -/
inductive GuardState where
  | inactive
  | toActive (count : Nat)
  | active
  | toInactive (count : Nat)
  deriving DecidableEq, Repr

/-- What a guard sample is judged by: the active level and n (R149). -/
structure GuardTerms where
  activeLevel : Level
  qual : BitVec 4
  deriving DecidableEq, Repr

/-- A guard line: configuration and state (R147, R149). `due` holds, in a guard sample cycle whose sample of this line is
still to be taken, what that sample is judged by: a write in the cycle takes effect from the next one (R148, R151). -/
structure GuardLine where
  enabled : Bool
  activeLevel : Level
  qual : BitVec 4
  state : GuardState
  due : Option GuardTerms
  deriving DecidableEq, Repr

/-- A safe level (R154). -/
inductive SafeLevel where
  | low
  | high
  | keep
  deriving DecidableEq, Repr

/-- The guard unit (R147, R148, R153, R154). `clock` counts REFCLK cycles modulo 65,536. -/
structure GuardUnit where
  lines : Bank GuardLine 2
  safe : Bank SafeLevel 8
  tripped : Bool
  clock : BitVec 16
  deriving DecidableEq, Repr

/-! ## Interrupt and command unit -/

/-- The latched flags (R161). QLEVEL is live and is computed from the queue. -/
structure Flags where
  qloss : Bool
  sfault : Bool
  gtrip : Bool
  tbevt : Bool
  cmderr : Bool
  deriving DecidableEq, Repr

/-- The result codes (R165). -/
inductive ResultCode where
  | ok
  | badIndex
  | badState
  | badField
  | tbBusy
  | tbStopped
  | guardActive
  | qEmpty
  deriving DecidableEq, Repr

/-- CMD_RESULT (R165). -/
structure CmdResult where
  strobe : Byte
  code : ResultCode
  deriving DecidableEq, Repr

/-- The interrupt and command unit (R161, R164, R165). -/
structure Interrupts where
  flags : Flags
  enables : BitVec 6
  result : CmdResult
  deriving DecidableEq, Repr

/-! ## Serial port -/

/-- Where the bytes of a read transaction come from: live, from the time snapshot latch (R176), or from the head latch
(R177), which also notes whether the byte at 0x47 was read in whole. -/
inductive Source where
  | live
  | snapshot
  | head (copy : Option Record) (lastRead : Bool)
  deriving DecidableEq, Repr

/-- The transaction: none, CS_N low with the address byte not yet complete, a read or a write with its address pointer, or
CS_N low but ignored since a pin reset (R170, R172, R178). -/
inductive Transaction where
  | idle
  | addressing
  | reading (pointer : Addr) (source : Source)
  | writing (pointer : Addr)
  | ignored
  deriving DecidableEq, Repr

/-- The time snapshot latch (R176). -/
structure Snapshot where
  time : Ticks
  epoch : Epoch
  status : Byte
  deriving DecidableEq, Repr

/-- The serial port (R170 to R177). `shift` is the byte fetched for the next read data byte, `fetchDue` says that a
fetch falls at the end of this cycle (R171), `read` is the last data byte that MISO shifted out in whole. -/
structure SerialPort where
  tx : Transaction
  page : Fin 3
  snapshot : Snapshot
  shift : Byte
  fetchDue : Bool
  read : Byte
  deriving DecidableEq, Repr

/-! ## Pins and the current cycle -/

/-- What an output pin shows (R115). -/
inductive PinLevel where
  | low
  | high
  | highZ
  deriving DecidableEq, Repr

/-- The pins. `now`, `before` and `sampled` are the input levels of this cycle, of the cycle before and of the one before
that: the two-stage synchroniser (R45, R148). `outs`, `irqLow` and `miso` are OUT0 to OUT7, IRQ_N and MISO as at the end of
the last completed cycle (R115, R164, R170). -/
structure Pins where
  now : InputPins
  before : InputPins
  sampled : InputPins
  outs : Bank PinLevel 8
  irqLow : Bool
  miso : Miso
  deriving DecidableEq, Repr

/-- An epoch-change notice: the new epoch, the new time value and the sweep indication (R24). -/
structure Notice where
  epoch : Epoch
  time : Ticks
  sweep : Bool
  deriving DecidableEq, Repr

/-- What of the current REFCLK cycle is under way. `frozen` is the frozen indication (R2). The other fields say what is
still to be taken in the cycle: a wrap (R17), the SLEW_END of a slew that ended on it (R23, R33), notices not yet taken by
the schedule table and the dispatcher (R102), the dispatch decision (`decided` once it is taken, R86), an action the output
unit has not taken (R122), and the offers that the queue's port has not taken, in the port's order (R131). The samples still
to be taken stand with their lines. `earlySkips` names the epoch-bound entries that SCH_ARM or a link has armed in this cycle
before the notice of its step, and that DROP has skipped at their arming: the notice makes them STALE (R73, R102). -/
structure Cycle where
  frozen : Bool
  wrapDue : Bool
  slewEndDue : Option Int
  notices : List Notice
  decided : Bool
  action : Option Deed
  offers : List Offer
  earlySkips : Bank Bool 32
  deriving DecidableEq, Repr

/-! ## The whole state -/

/-- Everything the spec gives the part, and the queue of the commands that wait. `resetLow`: RESET_N is low (R178).
`fresh` is the model's counter behind the free values of Config; every cycle and every fetch advance it. -/
structure State where
  tb : Timebase
  cap : Bank CapLine 6
  sched : Schedule
  disp : Dispatcher
  outs : Bank OutLine 8
  trq : RecordQueue
  guard : GuardUnit
  icu : Interrupts
  sp : SerialPort
  pins : Pins
  cyc : Cycle
  resetLow : Bool
  fresh : Nat
  pending : List Instr
  deriving DecidableEq, Repr

/-- The part never stops: no command ends in a fault, so this type has no value (safe: there is no stop to claim). -/
inductive Fault where
  deriving DecidableEq, Repr

/-- What stops the model without an effect. -/
inductive Refusal where
  /-- A command of the table without a meaning; no arm of `exec` raises it (safe). -/
  | notModelled (mnemonic : String)
  deriving DecidableEq, Repr

/-! ## Power-on values -/

/-- T = 0 and W = 1 s (R19). -/
def Trim.zero : Trim := { negative := false, magnitude := 0, window := .one }

/-- The timebase at power-on (R19). -/
def Timebase.reset : Timebase where
  state := .stopped
  time := 0
  epoch := 0
  written := .zero
  inForce := .zero
  trimPending := false
  position := 0
  rate := 4
  staged := { negative := false, value := 0 }
  cancelOwed := false

/-- A capture line at power-on (R58). -/
def CapLine.reset : CapLine where
  enabled := false
  edges := .rising
  divisor := 0
  qualMinus1 := 0
  log := false
  targetNone := true
  target := 0
  offset := 0
  level := none
  run := none
  interval := 0
  due := false

/-- The entry-composition fields at power-on (R81). -/
def Staging.reset : Staging where
  periodic := false
  drop := false
  action := .none
  notify := false
  epochBound := false
  line := 0
  limitPresent := false
  linkPresent := false
  link := 0
  due := 0
  width := 0
  period := 0
  limit := 0
  linkOffset := 0

/-- The schedule table at power-on (R81). -/
def Schedule.reset : Schedule where
  entries := .fill 32 .free
  staging := .reset
  view := { index := 0, entry := .free }

/-- The dispatcher at power-on (R109). -/
def Dispatcher.reset : Dispatcher := { holdHost := false, holdGuard := false, fault := .none }

/-- An output line at power-on (R124). -/
def OutLine.reset : OutLine := { mode := .off, idle := .low, level := .low, pulse := none }

/-- The time record queue at power-on (R144). -/
def RecordQueue.reset : RecordQueue where
  records := []
  nextSeq := 0
  policy := .keepOldest
  threshold := 1
  autoPop := false

/-- The guard unit at power-on (R158). -/
def GuardUnit.reset : GuardUnit where
  lines := .fill 2 { enabled := false, activeLevel := .high, qual := 1, state := .inactive, due := none }
  safe := .fill 8 .low
  tripped := false
  clock := 0

/-- No latched flag set (R168). -/
def Flags.clear : Flags :=
  { qloss := false, sfault := false, gtrip := false, tbevt := false, cmderr := false }

/-- The interrupt and command unit at power-on (R168). -/
def Interrupts.reset : Interrupts :=
  { flags := .clear, enables := 0, result := { strobe := 0, code := .ok } }

/-- The serial port at power-on (R178). DESIGN CHOICE (log entry 24): `shift` and `read` are 0. -/
def SerialPort.reset : SerialPort where
  tx := .idle
  page := 0
  snapshot := { time := 0, epoch := 0, status := 0 }
  shift := 0
  fetchDue := false
  read := 0

/-- The pins at power-on: outputs at high impedance (R124), IRQ_N released (R168). DESIGN CHOICE (log entry 9): the input
levels and the synchroniser stages are LOW, and CS_N is high, so that MISO is at high impedance (R170). -/
def Pins.reset : Pins where
  now := .low
  before := .low
  sampled := .low
  outs := .fill 8 .highZ
  irqLow := false
  miso := .highZ

/-- The cycle at power-on: frozen (R19), nothing under way. DESIGN CHOICE (log entry 24): the dispatch decision is open. -/
def Cycle.reset : Cycle where
  frozen := true
  wrapDue := false
  slewEndDue := none
  notices := []
  decided := false
  action := none
  offers := []
  earlySkips := .fill 32 false

/-- The machine right after power-on reset. DESIGN CHOICE (log entry 29): RESET_N is high, since the spec gives its level at
power-on nowhere. -/
def State.reset : State where
  tb := .reset
  cap := .fill 6 .reset
  sched := .reset
  disp := .reset
  outs := .fill 8 .reset
  trq := .reset
  guard := .reset
  icu := .reset
  sp := .reset
  pins := .reset
  cyc := .reset
  resetLow := false
  fresh := 0
  pending := []

/-! ## One named update per field -/

def State.setTb (s : State) (x : Timebase) : State := { s with tb := x }
def State.setCap (s : State) (x : Bank CapLine 6) : State := { s with cap := x }
def State.setSched (s : State) (x : Schedule) : State := { s with sched := x }
def State.setDisp (s : State) (x : Dispatcher) : State := { s with disp := x }
def State.setOuts (s : State) (x : Bank OutLine 8) : State := { s with outs := x }
def State.setTrq (s : State) (x : RecordQueue) : State := { s with trq := x }
def State.setGuard (s : State) (x : GuardUnit) : State := { s with guard := x }
def State.setIcu (s : State) (x : Interrupts) : State := { s with icu := x }
def State.setSp (s : State) (x : SerialPort) : State := { s with sp := x }
def State.setPins (s : State) (x : Pins) : State := { s with pins := x }
def State.setCyc (s : State) (x : Cycle) : State := { s with cyc := x }
def State.setResetLow (s : State) (x : Bool) : State := { s with resetLow := x }
def State.setFresh (s : State) (x : Nat) : State := { s with fresh := x }
def State.setPending (s : State) (x : List Instr) : State := { s with pending := x }

end Sys2Proof.Machine
end

