-- ==== Sys2Proof/Machine/Flags.lean ====
section
/-! DEFINITION. The pending flags, IRQ_N and CMD_RESULT (chapter 9). -/

namespace Sys2Proof.Machine

/-- The name of a latched flag (R161). -/
inductive Flag where
  | qloss
  | sfault
  | gtrip
  | tbevt
  | cmderr
  deriving DecidableEq, Repr

/-- The latched flags with one of them set (R162). -/
def Flags.set (f : Flag) (x : Flags) : Flags :=
  match f with
  | .qloss => { x with qloss := true }
  | .sfault => { x with sfault := true }
  | .gtrip => { x with gtrip := true }
  | .tbevt => { x with tbevt := true }
  | .cmderr => { x with cmderr := true }

/-- Whether a latched flag stands set. -/
def Flags.get (f : Flag) (x : Flags) : Bool :=
  match f with
  | .qloss => x.qloss
  | .sfault => x.sfault
  | .gtrip => x.gtrip
  | .tbevt => x.tbevt
  | .cmderr => x.cmderr

/-- A write of one to a flag's position clears it; the positions are those of the pending register (R163, R180). -/
def Flags.clearBits (data : Byte) (x : Flags) : Flags where
  qloss := x.qloss && !data.getLsbD 1
  sfault := x.sfault && !data.getLsbD 2
  gtrip := x.gtrip && !data.getLsbD 3
  tbevt := x.tbevt && !data.getLsbD 4
  cmderr := x.cmderr && !data.getLsbD 5

/-- A raise handed to the ICU: the flag stands set after it (R162), but the ICU keeps no raise while RESET_N is low
(R169). -/
def State.raise (f : Flag) (s : State) : State :=
  if s.resetLow then s else s.setIcu { s.icu with flags := s.icu.flags.set f }

/-- The raises of a flag for each of which `b` says that its cause has come about. -/
def State.raiseIf (b : Bool) (f : Flag) (s : State) : State :=
  if b then s.raise f else s

/-- QLEVEL: the count of records is at or above the threshold (R136). -/
def State.qlevel (s : State) : Bool :=
  decide (s.trq.threshold.toNat ≤ s.trq.records.length)

/-- Bit `i` of a byte, set where `b`. -/
def bitAt (i : Nat) (b : Bool) : Byte :=
  if b then BitVec.ofNat 8 (2 ^ i) else 0

/-- What a read of the pending register shows (R163, R180). -/
def State.pendingByte (s : State) : Byte :=
  bitAt 0 s.qlevel ||| bitAt 1 s.icu.flags.qloss ||| bitAt 2 s.icu.flags.sfault |||
    bitAt 3 s.icu.flags.gtrip ||| bitAt 4 s.icu.flags.tbevt ||| bitAt 5 s.icu.flags.cmderr

/-- IRQ_N is low exactly when some pending flag and its enable are both set (R164). -/
def State.irqLow (s : State) : Bool :=
  s.pendingByte &&& s.icu.enables.setWidth 8 != 0

/-- CMD_RESULT takes the strobe address and the result of a command, and CMDERR is raised where the result is not OK
(R165). -/
def State.setResult (strobe : Byte) (code : ResultCode) (s : State) : State :=
  (s.setIcu { s.icu with result := { strobe := strobe, code := code } }).raiseIf (code != .ok) .cmderr

/-- The port can take a write data byte: not while RESET_N is low, nor while CS_N is ignored after it (R178), nor while a
read transaction runs, which ignores MOSI (R170, R177). A row needs no open transaction (log entry 5). -/
def State.takesBytes (s : State) : Bool :=
  !s.resetLow &&
    match s.sp.tx with
    | .idle => true
    | .addressing => true
    | .writing _ => true
    | .reading _ _ => false
    | .ignored => false

/-- A strobe byte, where the port takes it, reaches its owner, which takes or refuses the command, and the result is recorded
(R165, R174). -/
def State.command (strobe : Byte) (owner : State → State × ResultCode) (s : State) : State :=
  if s.takesBytes then (owner s).1.setResult strobe (owner s).2 else s

end Sys2Proof.Machine
end

