-- ==== Sys2Proof/Machine/Operands.lean ====
section
/-! DEFINITION. The fields of data bytes: multi-byte quantities, most significant byte first, and the codes of the layout
tables (R180). -/

namespace Sys2Proof.Machine

/-- Byte `i` of an `n`-byte quantity, byte 0 being the most significant (R180). -/
def byteOf {w : Nat} (n i : Nat) (x : BitVec w) : Byte :=
  (x >>> (8 * (n - 1 - i))).setWidth 8

/-- The `n`-byte quantity with byte `i` replaced, byte 0 being the most significant (R180). -/
def withByte {w : Nat} (n i : Nat) (b : Byte) (x : BitVec w) : BitVec w :=
  let sh := 8 * (n - 1 - i)
  (x &&& ~~~((255#w) <<< sh)) ||| (b.setWidth w <<< sh)

/-- Seconds and fraction as one count: the two parts lie side by side (R1). -/
def secondsOf (t : Ticks) : BitVec 32 := (t >>> 24).setWidth 32

/-- The fraction of a time value (R1). -/
def fractionOf (t : Ticks) : BitVec 24 := t.setWidth 24

/-- The edge set a code names; code 3 names none (R43, R180). -/
def EdgeSet.ofCode (c : BitVec 2) : Option EdgeSet :=
  match c.toNat with
  | 0 => some .rising
  | 1 => some .falling
  | 2 => some .both
  | _ => none

/-- The code of an edge set (R180). -/
def EdgeSet.code : EdgeSet → Byte
  | .rising => 0
  | .falling => 1
  | .both => 2

/-- Whether the set holds the direction (R46). -/
def EdgeSet.holds (e : EdgeSet) (rising : Bool) : Bool :=
  match e with
  | .rising => rising
  | .falling => !rising
  | .both => true

/-- The safe level a code names; code 3 names none (R154, R180). -/
def SafeLevel.ofCode (c : BitVec 2) : Option SafeLevel :=
  match c.toNat with
  | 0 => some .low
  | 1 => some .high
  | 2 => some .keep
  | _ => none

/-- The code of a safe level (R180). -/
def SafeLevel.code : SafeLevel → Byte
  | .low => 0
  | .high => 1
  | .keep => 2

/-- The window a code names; code 3 names none (R10, R180). -/
def TrimWindow.ofCode (c : BitVec 2) : Option TrimWindow :=
  match c.toNat with
  | 0 => some .one
  | 1 => some .eight
  | 2 => some .sixtyFour
  | _ => none

/-- The code of a window (R180). -/
def TrimWindow.code : TrimWindow → Byte
  | .one => 0
  | .eight => 1
  | .sixtyFour => 2

/-- The action a code names; codes 5 to 7 name none (R65, R180). -/
def ActionCode.ofCode (c : BitVec 3) : Option ActionCode :=
  match c.toNat with
  | 0 => some .none
  | 1 => some .set
  | 2 => some .clear
  | 3 => some .toggle
  | 4 => some .pulse
  | _ => Option.none

/-- The code of an action (R180). -/
def ActionCode.code : ActionCode → Byte
  | .none => 0
  | .set => 1
  | .clear => 2
  | .toggle => 3
  | .pulse => 4

/-- The code of a result (R180). -/
def ResultCode.byte : ResultCode → Byte
  | .ok => 0
  | .badIndex => 1
  | .badState => 2
  | .badField => 3
  | .tbBusy => 4
  | .tbStopped => 5
  | .guardActive => 6
  | .qEmpty => 7

/-- An index of `n` things in an argument byte: none where there is no such thing (BAD_INDEX). -/
def indexOf (n : Nat) (arg : Byte) : Option (Fin n) :=
  if h : arg.toNat < n then some ⟨arg.toNat, h⟩ else none

/-- The signed value of T; a negative zero is 0 (R10). -/
def Trim.value (t : Trim) : Int :=
  if t.negative then -(t.magnitude.toNat : Int) else t.magnitude.toNat

/-- The cycles of a window, N = W × 2^24 (R11). -/
def TrimWindow.cycles : TrimWindow → Nat
  | .one => Config.ticksPerSecond
  | .eight => 8 * Config.ticksPerSecond
  | .sixtyFour => 64 * Config.ticksPerSecond

/-- The signed amount of the staged time, in ticks (R27, R30). -/
def StagedTime.amount (t : StagedTime) : Int :=
  if t.negative then -(t.value.toNat : Int) else t.value.toNat

/-- The qualification q of a capture line (R43). -/
def CapLine.qual (l : CapLine) : Nat := l.qualMinus1.toNat + 1

/-- The trigger target of a capture line (R43). -/
def CapLine.trigger (l : CapLine) : Option (Fin 32) :=
  if l.targetNone then none else some l.target.toFin

/-- The elapsed count of an edge, (q − 1) × 2^d (R38). -/
def CapLine.elapsed (l : CapLine) : Nat := l.qualMinus1.toNat * 2 ^ l.divisor.toNat

/-- A count that saturates at 65,535 (R63). -/
def satAdd (c : Count) (n : Nat) : Count :=
  BitVec.ofNat 16 (min (c.toNat + n) 65535)

/-- A number clipped to −8,388,607 … +8,388,607 (R23). -/
def clipAmount (a : Int) : Int :=
  max (-(Config.amountBound : Int)) (min (Config.amountBound : Int) a)

end Sys2Proof.Machine
end

