-- ==== Sys2Proof/Machine/Presented.lean ====
section
/-! DEFINITION. How a capture line takes a sample, and what the timebase presents in a cycle: the one time, epoch and state
that every block reads in it (R2, R22). -/

namespace Sys2Proof.Machine

/-! ## A sample of a capture line -/

/-- A run that has reached its qualification count (R46): the direction and the first sample. -/
structure Completion where
  rising : Bool
  time : Ticks
  epoch : Epoch
  frozen : Bool
  deriving DecidableEq, Repr

/-- A run completes: the qualified level becomes the candidate and the run becomes absent; the change completes an edge
where its direction is in the edge set (R46). -/
def CapLine.complete (r : Run) (l : CapLine) : CapLine × Option Completion :=
  ({ l with level := some r.candidate, run := none },
    if l.edges.holds r.candidate.isHigh then
      some { rising := r.candidate.isHigh, time := r.time, epoch := r.epoch, frozen := r.frozen }
    else none)

/-- A run after one more sample at its candidate level: kept, or completed at the count q (R46). -/
def CapLine.advance (r : Run) (l : CapLine) : CapLine × Option Completion :=
  if r.count < l.qual then ({ l with run := some r }, none) else l.complete r

/-- One sample of an enabled line, in a cycle of the given time, epoch and frozen indication (R46, R53). -/
def CapLine.sample (v : Level) (time : Ticks) (epoch : Epoch) (frozen : Bool) (l : CapLine) :
    CapLine × Option Completion :=
  match l.level, l.run with
  | none, _ => ({ l with level := some v, run := none }, none)
  | some q, none =>
    if v = q then (l, none)
    else l.advance { candidate := v, time := time, epoch := epoch, frozen := frozen, count := 1 }
  | some q, some r =>
    if v = q then ({ l with run := none }, none)
    else l.advance { r with count := r.count + 1 }

/-- The level a sample of line `n` reads: the pin as it stood two cycles before (R45). -/
def State.capSample (n : Fin 6) (s : State) : Level := Level.ofBool (s.pins.sampled.cap.getLsbD n.val)

/-- The sample of line `n` that falls in this cycle is still to be taken and completes an edge. -/
def State.completesEdge (n : Fin 6) (s : State) : Bool :=
  (s.cap.get n).due && ((s.cap.get n).sample (s.capSample n) s.tb.time s.tb.epoch s.cyc.frozen).2.isSome

/-! ## The time of the cycle -/

/-- The capture line that an edge-aligned load waits for (R35). -/
def Timebase.awaited (tb : Timebase) : Option (Fin 6) :=
  match tb.state with
  | .awaitEdge w => some w.line
  | _ => none

/-- The edge-aligned load that this cycle completes and whose sample is still to be taken (R38). -/
def State.edgeLoadDue (s : State) : Option EdgeWait :=
  match s.tb.state with
  | .awaitEdge w => if s.completesEdge w.line then some w else none
  | _ => none

/-- The time that an edge-aligned load gives the completion cycle: the target plus the elapsed count (R38). -/
def State.edgeLoadTime (w : EdgeWait) (s : State) : Ticks :=
  BitVec.ofNat 56 (w.target.toNat + (s.cap.get w.line).elapsed)

/-- A wrap of this cycle is still to be taken (R17). The cycle of an edge-aligned load carries no wrap of its own (R22). -/
def State.wraps (s : State) : Bool := s.cyc.wrapDue && s.edgeLoadDue.isNone

/-- The timebase as this cycle presents it to the blocks that read time (R2): the value and the epoch of a step are those of
the whole cycle (R22, R23), also for a reader that comes before the wrap or the awaited sample (log entry 7). -/
def State.presented (s : State) : Timebase :=
  match s.edgeLoadDue with
  | some w => { s.tb with state := .running, time := s.edgeLoadTime w, epoch := s.tb.epoch + 1 }
  | none => if s.cyc.wrapDue then { s.tb with epoch := s.tb.epoch + 1 } else s.tb

/-- The notice of a step of this cycle is still to be taken: one that was given, or that of a wrap or an edge-aligned load
whose event is still to come (R24). -/
def State.noticeDue (s : State) : Bool := !s.cyc.notices.isEmpty || s.cyc.wrapDue || s.edgeLoadDue.isSome

/-- The sample of line `n` that falls in this cycle, taken at the cycle's time. -/
def State.sampleOf (n : Fin 6) (s : State) : CapLine × Option Completion :=
  (s.cap.get n).sample (s.capSample n) s.presented.time s.presented.epoch s.cyc.frozen

end Sys2Proof.Machine
end

