-- ==== Sys2Proof/Machine/Ops.lean ====
section
/-! DEFINITION. The operations several blocks share: offers and the queue's port, output lines, entries, the sweep and the
epoch-change notice, arming. -/

namespace Sys2Proof.Machine

/-! ## Offers and the time record queue -/

/-- The place of an offer in the order of the queue's port: GUARD by line, STEP, EDGE by line, FIRE (R131). -/
def Offer.rank (o : Offer) : Nat :=
  match o.body with
  | .guard line _ => line.val
  | .step _ _ _ => 2
  | .edge line _ _ _ _ => 3 + line.val
  | .fire _ _ _ _ _ => 9

/-- An offer put in its place among those of its cycle; offers of one rank keep the order in which they came (R131). -/
def insertOffer (o : Offer) : List Offer → List Offer
  | [] => [o]
  | p :: ps => if o.rank < p.rank then o :: p :: ps else p :: insertOffer o ps

/-- A block offers a record in this cycle; it waits at the port until the port takes it (R130, R131). -/
def State.offer (o : Offer) (s : State) : State :=
  s.setCyc { s.cyc with offers := insertOffer o s.cyc.offers }

/-- An offer whose body is a GUARD record (R132). -/
def Offer.isGuard (o : Offer) : Bool :=
  match o.body with
  | .guard _ _ => true
  | _ => false

/-- The records after a full queue takes a numbered offer under its policy (R132, R133). -/
def fullQueue (q : RecordQueue) (r : Record) : List Record :=
  match q.policy with
  | .keepNewest => q.records.tail ++ [r]
  | .keepOldest => if r.offer.isGuard then q.records.dropLast ++ [r] else q.records

/-- The queue takes one offer: it gets the next sequence number and is appended, or the full policy decides (R130, R132,
R133). -/
def RecordQueue.take (o : Offer) (q : RecordQueue) : RecordQueue :=
  { q with
    nextSeq := q.nextSeq + 1
    records :=
      if q.records.length < Config.queuePlaces then q.records ++ [{ seq := q.nextSeq, offer := o }]
      else fullQueue q { seq := q.nextSeq, offer := o } }

/-- An offer taken by the queue; every loss raises QLOSS, and an offer taken by a full queue loses a record in either
policy (R132, R133, R134). -/
def State.takeOffer (s : State) (o : Offer) : State :=
  (s.setTrq (s.trq.take o)).raiseIf (decide (Config.queuePlaces ≤ s.trq.records.length)) .qloss

/-- The port takes every offer of the cycle, in its order (R131). -/
def State.drainAll (s : State) : State :=
  s.cyc.offers.foldl State.takeOffer (s.setCyc { s.cyc with offers := [] })

/-- The first capture line whose sample of this cycle is still to be taken. -/
def State.firstDue (s : State) : Option (Fin 6) :=
  (List.finRange 6).find? fun n => (s.cap.get n).due

/-- The awaited line's sample of this cycle is still to be taken. -/
def State.awaitedDue (s : State) : Bool :=
  match s.tb.awaited with
  | some n => (s.cap.get n).due
  | none => false

/-- A guard sample of this cycle is still to be taken. -/
def State.guardDue (s : State) : Bool := !s.guard.lines.all fun l => l.due.isNone

/-- Ranks below this one are settled in this cycle: every source of an offer of a lower rank has been taken. -/
def State.settledRank (s : State) : Nat :=
  if s.guardDue then 0
  else if s.cyc.wrapDue || s.cyc.slewEndDue.isSome || s.awaitedDue then 2
  else match s.firstDue with
    | some n => 3 + n.val
    | none => if s.cyc.decided then 10 else 9

/-- The port takes the offers of this cycle that no offer still to come can precede. It does so before a command that
reaches the queue in the same cycle, so that the offers taken before the command come before it (R138, R140, R142, R143,
R146), and R131 holds all the same. -/
def State.drainReady (s : State) : State :=
  (s.cyc.offers.filter fun o => o.rank < s.settledRank).foldl State.takeOffer
    (s.setCyc { s.cyc with offers := s.cyc.offers.filter fun o => !decide (o.rank < s.settledRank) })

/-- The queue without its head (R139). -/
def RecordQueue.pop (q : RecordQueue) : RecordQueue := { q with records := q.records.tail }

/-- The queue emptied; configuration and numbering are kept (R143). -/
def RecordQueue.flush (q : RecordQueue) : RecordQueue := { q with records := [] }

/-- A STEP record of the timebase (R23). -/
def State.offerStep (source : StepSource) (backward : Bool) (amount : Int) (s : State) : State :=
  s.offer { time := s.tb.time, epoch := s.tb.epoch, body := .step source backward amount }

/-! ## Output lines -/

/-- The line at a level, its pulse cancelled without an end: SET, CLEAR and the force commands (R116, R121). -/
def OutLine.force (v : Level) (l : OutLine) : OutLine := { l with level := v, pulse := none }

/-- TOGGLE (R117). -/
def OutLine.toggle (l : OutLine) : OutLine := l.force l.level.inverse

/-- PULSE of a width: the level is the inverse of the idle level in force, for the whole width (R118). -/
def OutLine.startPulse (w : BitVec 24) (l : OutLine) : OutLine :=
  { l with level := l.idle.inverse, pulse := some { remaining := w, active := l.idle.inverse } }

/-- The lines after an action (R116 to R118). -/
def Deed.act (d : Deed) (outs : Bank OutLine 8) : Bank OutLine 8 :=
  match d with
  | .none => outs
  | .set n => outs.modify n (OutLine.force .high)
  | .clear n => outs.modify n (OutLine.force .low)
  | .toggle n => outs.modify n OutLine.toggle
  | .pulse n w => outs.modify n (OutLine.startPulse w)

/-- The level a safe level gives a line that stands at `v` (R122). -/
def SafeLevel.apply (sl : SafeLevel) (v : Level) : Level :=
  match sl with
  | .low => .low
  | .high => .high
  | .keep => v

/-- The order to go safe (R122). -/
def goSafe (safe : Bank SafeLevel 8) (outs : Bank OutLine 8) : Bank OutLine 8 :=
  .ofFn fun n => (outs.get n).force ((safe.get n).apply (outs.get n).level)

/-- The output unit takes an action, or discards it where the guard unit is tripped (R122). -/
def State.takeAction (d : Deed) (s : State) : State :=
  if s.guard.tripped then s else s.setOuts (d.act s.outs)

/-- An action handed over in this cycle and not yet taken is taken now (R122). -/
def State.deliverAction (s : State) : State :=
  match s.cyc.action with
  | none => s
  | some d => (s.setCyc { s.cyc with action := none }).takeAction d

/-- The dispatcher hands over an action, to be taken at once or after a trip of the same cycle (R88, R122). -/
def State.handAction (order : ActionOrder) (d : Deed) (s : State) : State :=
  match order with
  | .actionFirst => s.takeAction d
  | .afterTrip => s.setCyc { s.cyc with action := some d }

/-! ## Entries -/

/-- The table with entry `n` replaced. -/
def State.setEntry (n : Fin 32) (e : Entry) (s : State) : State :=
  s.setSched { s.sched with entries := s.sched.entries.set n e }

/-- Entry `n`. -/
def State.entry (n : Fin 32) (s : State) : Entry := s.sched.entries.get n

/-- The table with `f` applied to every entry. -/
def State.mapEntries (f : Entry → Entry) (s : State) : State :=
  s.setSched { s.sched with entries := s.sched.entries.map f }

/-- The device-kept fields at their starting values (R63). -/
def Kept.start (p : Plan) (epoch : Option Epoch) : Kept where
  remaining := match p.cadence with
    | .once => none
    | .periodic _ limit => limit
  fires := 0
  skips := 0
  lastFire := none
  armedEpoch := epoch

/-- An entry made DONE with an outcome; a FREE or DONE entry is left as it is (R64). -/
def Entry.finish (f : Fate) (e : Entry) : Entry :=
  match e with
  | .parked p k => .done f p k
  | .armed p k _ => .done f p k
  | e => e

/-- The smallest k from 1 upward for which d + k × p lies above t (R92, R98). -/
def stepsPast (t d p : Nat) : Nat := (t - d) / p + 1

/-- A plan with its due time moved. -/
def Plan.at (p : Plan) (due : Nat) : Plan := { p with due := BitVec.ofNat 56 due }

/-- An overdue PERIODIC entry under DROP (R98). -/
def skipPeriodic (t : Ticks) (p : Plan) (k : Kept) (period : Span) : Entry :=
  let d := p.due.toNat
  let n := stepsPast t.toNat d period.toNat
  let next := d + n * period.toNat
  let last := d + (n - 1) * period.toNat
  match k.remaining with
  | none =>
    let k' := { k with skips := satAdd k.skips n }
    if next < Config.timeModulus then .armed (p.at next) k' false else .done .skipped (p.at last) k'
  | some r =>
    if n < r.toNat then
      let k' := { k with skips := satAdd k.skips n, remaining := some (r - BitVec.ofNat 16 n) }
      if next < Config.timeModulus then .armed (p.at next) k' false else .done .skipped (p.at last) k'
    else
      .done .skipped (p.at (d + (r.toNat - 1) * period.toNat))
        { k with skips := satAdd k.skips r.toNat, remaining := some 0 }

/-- An overdue entry under DROP (R97, R98). -/
def skipOverdue (t : Ticks) (p : Plan) (k : Kept) : Entry :=
  match p.cadence with
  | .once => .done .skipped p { k with skips := satAdd k.skips 1 }
  | .periodic period _ => skipPeriodic t p k period

/-- An entry examined against a time: where it is ARMED, unmarked and due at or below the time, it is overdue and is treated
by its late policy (R95, R96, R97, R98). -/
def Entry.treat (t : Ticks) (e : Entry) : Entry :=
  match e with
  | .armed p k false =>
    if p.due ≤ t then
      match p.late with
      | .fireLate => .armed p k true
      | .drop => skipOverdue t p k
    else e
  | e => e

/-- The overdue sweep against a time: every entry is examined (R95). -/
def State.sweep (t : Ticks) (s : State) : State := s.mapEntries (Entry.treat t)

/-- The hold set is empty (R103). -/
def Dispatcher.free (d : Dispatcher) : Bool := !d.holdHost && !d.holdGuard

/-- An entry at an epoch-change notice: DONE STALE where it is ARMED or PARKED and epoch-bound (R101). -/
def Entry.stale (e : Entry) : Entry :=
  match e with
  | .parked p _ => if p.epochBound then e.finish .stale else e
  | .armed p _ _ => if p.epochBound then e.finish .stale else e
  | e => e

/-- A late mark is cleared where the due time lies above the new time (R99). DEDUCED (log entry 30): so it is at a wrap too,
where the rule's last sentence takes every due time to lie above the new value: an entry due at or below it, which is 0 or
1, keeps its mark. -/
def Entry.unmark (t : Ticks) (e : Entry) : Entry :=
  match e with
  | .armed p k true => .armed p k (decide (p.due ≤ t))
  | e => e

/-- The schedule table and the dispatcher take an epoch-change notice (R100). -/
def State.takeNotice (s : State) (n : Notice) : State :=
  let s := s.mapEntries fun e => (e.stale).unmark n.time
  if n.sweep && s.disp.free then s.sweep n.time else s

/-- An entry that was skipped at its arming before the notice is DONE STALE by the notice (R73, R102). -/
def Entry.overtaken (e : Entry) : Entry :=
  match e with
  | .done .skipped p k => .done .stale p k
  | e => e

/-- The noted entries at a notice. DEDUCED (log entry 33): an epoch-bound entry that SCH_ARM or a link has armed before the notice
ends DONE STALE (R73, R102) also where the arming check has skipped it (R93), although it is DONE (R64). -/
def State.overtake (s : State) : State :=
  (s.setSched { s.sched with
    entries := .ofFn fun n => if s.cyc.earlySkips.get n then (s.entry n).overtaken else s.entry n }).setCyc
    { s.cyc with earlySkips := .fill 32 false }

/-- The notices of this cycle that have not been taken are taken, in the order in which they were given (R42, R102). -/
def State.takeNotices (s : State) : State :=
  match s.cyc.notices with
  | [] => s
  | ns => ns.foldl State.takeNotice (s.overtake.setCyc { s.overtake.cyc with notices := [] })

/-- The timebase gives a notice with the new epoch and the new time of this cycle (R24). -/
def State.giveNotice (sweep : Bool) (s : State) : State :=
  s.setCyc
    { s.cyc with notices := s.cyc.notices ++ [{ epoch := s.tb.epoch, time := s.tb.time, sweep := sweep }] }

/-- A notice taken at once, or left to be taken after the cycle's other events (R102). -/
def State.orderNotice (order : NoticeOrder) (s : State) : State :=
  match order with
  | .noticeFirst => s.takeNotices
  | .noticeLast => s

/-- A PARKED entry armed with a due time in an epoch, and examined at its arming (R72, R93). -/
def armParked (t : Ticks) (epoch : Epoch) (due : Nat) (p : Plan) (k : Kept) : Entry :=
  Entry.treat t (.armed (p.at due) { k with armedEpoch := some epoch } false)

/-- An epoch-bound entry that has been skipped. -/
def Entry.skippedBound : Entry → Bool
  | .done .skipped p _ => p.epochBound
  | _ => false

/-- SCH_ARM, SCH_PARK or a link has filled or armed entry `n`: it is noted whether the arming check has skipped an epoch-bound
entry before the notice of a step of the cycle (R73, R102). -/
def State.noteArming (n : Fin 32) (s : State) : State :=
  s.setCyc { s.cyc with earlySkips := s.cyc.earlySkips.set n (s.noticeDue && (s.entry n).skippedBound) }

/-- A fault recorded in SCH_FAULT; SFAULT is raised (R108). -/
def State.schedFault (f : SchedFault) (s : State) : State :=
  (s.setDisp { s.disp with fault := f }).raise .sfault

/-- A link or trigger request: where the target is PARKED it is armed, and else there is a miss; a due time above
2^56 − 1 is a miss too (R50, R51, R72, R89). DEDUCED (log entry 34): the check at arming reads the time that the cycle has when
the request is made, also where a TB_LOAD or TB_JUMP after it gives the cycle a second time (R42). -/
def State.requestArm (n : Fin 32) (due : Nat) (miss : SchedFault) (s : State) : State × Bool :=
  match s.entry n with
  | .parked p k =>
    if due < Config.timeModulus then
      (s.setEntry n (armParked s.presented.time s.presented.epoch due p k), false)
    else (s.schedFault miss, true)
  | _ => (s.schedFault miss, true)

/-- The step of the time value: the cycle takes a new value, the epoch goes up by one, and a STEP record is offered (R22,
R23). The step replaces any wrap of the cycle (R22). -/
def State.stepTime (value : Ticks) (source : StepSource) (backward : Bool) (amount : Int) (s : State) : State :=
  ((s.setTb { s.tb with time := value, epoch := s.tb.epoch + 1 }).setCyc { s.cyc with wrapDue := false }).offerStep
    source backward amount

/-- A SLEW_END that is still to be taken in this cycle is offered, and TBEVT raised (R33). -/
def State.offerSlewEnd (s : State) : State :=
  match s.cyc.slewEndDue with
  | none => s
  | some amount => ((s.setCyc { s.cyc with slewEndDue := none }).offerStep .slewEnd false amount).raise .tbevt

/-- The timebase's share of a wrap: the epoch goes up, the STEP record is offered, TBEVT is raised and the notice without
sweep is given (R17). A slew that ends on the cycle offers its record after it (R23). -/
def State.applyWrap (s : State) : State :=
  let s := s.setTb { s.tb with epoch := s.tb.epoch + 1 }
  let s := (s.setCyc { s.cyc with wrapDue := false }).offerStep .wrap false 0
  ((s.giveNotice false).raise .tbevt).offerSlewEnd

/-- The wrap of this cycle, where one is still to be taken, and every notice of the cycle that has not been taken (R17,
R100). -/
def State.takeWrap (s : State) : State := (if s.wraps then s.applyWrap else s).takeNotices

/-- An edge-aligned load (R38, R39): the time of the cycle becomes the target plus the elapsed count, the epoch goes up, the
STEP record is offered, the state becomes RUNNING, TBEVT is raised, and the notice with the sweep indication is given and
taken. DESIGN CHOICE (log entry 36): the notice is always taken with the awaited sample, so that where TB_LOAD or TB_JUMP follows
in the cycle (R42) no event comes before both notices at the time of the second step (R102). -/
def State.applyEdgeLoad (w : EdgeWait) (s : State) : State :=
  let s := s.stepTime (s.edgeLoadTime w) .edgeLoad false 0
  let s := s.setTb { s.tb with state := .running }
  ((s.giveNotice true).raise .tbevt).takeNotices

end Sys2Proof.Machine
end

