-- ==== Sys2Proof/Machine/Events.lean ====
section
/-! DEFINITION. The events that fall inside a REFCLK cycle: samples of the capture and guard lines, the dispatch decision, pulse ends and the end of a trim window. -/

namespace Sys2Proof.Machine

/-! ## Capture samples -/

/-- The trigger of a completed edge (R50): stale, in range or not, and the request to the dispatcher (R51). -/
def State.triggerEdge (n : Fin 6) (time : Ticks) (epoch : Epoch) (s : State) : State × Trigger :=
  match (s.cap.get n).trigger with
  | none => (s, .noMiss)
  | some target =>
    if epoch ≠ s.presented.epoch then (s.schedFault (.trigStale n), .stale)
    else
      let (s', missed) := s.requestArm target (time.toNat + (s.cap.get n).offset.toNat) (.trigMiss n)
      (s', if missed then .miss else .noMiss)

/-- Steps 2 and 3 of an edge's completion: the trigger, then the EDGE record where the line logs (R47, R49). -/
def State.finishEdge (n : Fin 6) (rising : Bool) (time : Ticks) (epoch : Epoch) (frozen : Bool) (s : State) : State :=
  let (s', trigger) := s.triggerEdge n time epoch
  let l := s'.cap.get n
  if l.log then
    s'.offer { time := time, epoch := epoch, body := .edge n rising frozen trigger l.qual }
  else s'

/-- A completed edge (R47): where the timebase awaits it, it applies the edge-aligned load, and the edge takes the target and
the new epoch and is never time-frozen (R39, R48, R52); else it keeps its first sample. -/
def State.completeEdge (n : Fin 6) (c : Completion) (s : State) : State :=
  match s.tb.state with
  | .awaitEdge w =>
    if w.line = n then
      let s := s.applyEdgeLoad w
      s.finishEdge n c.rising w.target s.tb.epoch false
    else s.finishEdge n c.rising c.time c.epoch c.frozen
  | _ => s.finishEdge n c.rising c.time c.epoch c.frozen

/-- The sample of capture line `n` in this cycle (R45, R46, R47). Where no sample of the line falls in this cycle, or it
has been taken, nothing happens. -/
def State.takeCapture (n : Fin 6) (s : State) : State :=
  if (s.cap.get n).due then
    let (l, done) := s.sampleOf n
    let s := s.setCap (s.cap.set n { l with due := false })
    match done with
    | none => s
    | some c => s.completeEdge n c
  else s

/-! ## Guard samples -/

/-- One sample of an enabled guard line (R149). DEDUCED (log entry 35): a count that already stands at or above n, which a write
of a smaller n in the cycle of the run's first sample can leave (R151), completes the passage at the next sample at its
level. -/
def GuardState.sample (active : Bool) (n : Nat) (g : GuardState) : GuardState :=
  match g, active with
  | .inactive, false => .inactive
  | .inactive, true => if n ≤ 1 then .active else .toActive 1
  | .toActive c, true => if n ≤ c + 1 then .active else .toActive (c + 1)
  | .toActive _, false => .inactive
  | .active, true => .active
  | .active, false => if n ≤ 1 then .inactive else .toInactive 1
  | .toInactive c, false => if n ≤ c + 1 then .inactive else .toInactive (c + 1)
  | .toInactive _, true => .active

/-- The line passes to ACTIVE by this sample (R149). A return from QUALIFYING toward INACTIVE is an abandoned run. -/
def GuardState.activates (active : Bool) (n : Nat) (g : GuardState) : Bool :=
  match g, active with
  | .inactive, true => decide (n ≤ 1)
  | .toActive c, true => decide (n ≤ c + 1)
  | _, _ => false

/-- The trip (R153): outputs to their safe levels, GUARD into the hold set. -/
def State.trip (s : State) : State :=
  ((s.setGuard { s.guard with tripped := true }).setOuts (goSafe s.guard.safe s.outs)).setDisp
    { s.disp with holdGuard := true }

/-- An activation of guard line `n` (R152): its GUARD record, the trip where the unit is untripped, and GTRIP. -/
def State.activate (n : Fin 2) (s : State) : State :=
  let s := s.offer { time := s.presented.time, epoch := s.presented.epoch, body := .guard n s.cyc.frozen }
  (if s.guard.tripped then s else s.trip).raise .gtrip

/-- The level a sample of guard line `n` reads: the pin as it stood two cycles before (R148). -/
def State.guardLevel (n : Fin 2) (s : State) : Level := Level.ofBool (s.pins.sampled.grd.getLsbD n.val)

/-- The sample of guard line `n` in a guard sample cycle, where it is still to be taken, judged by the active level and the n
that stood as the cycle began (R148, R149, R151). -/
def State.sampleGuard (n : Fin 2) (s : State) : State :=
  let l := s.guard.lines.get n
  match l.due with
  | some terms =>
    let active := decide (s.guardLevel n = terms.activeLevel)
    let s' := s.setGuard { s.guard with
      lines := s.guard.lines.set n { l with state := l.state.sample active terms.qual.toNat, due := none } }
    if l.state.activates active terms.qual.toNat then s'.activate n else s'
  | none => s

/-- The guard samples of this cycle (R148). An action of this cycle that the output unit was to take after a trip meets it
here (R122). Where this cycle is no guard sample cycle, or its samples have been taken, nothing happens. -/
def State.takeGuard (s : State) : State :=
  if s.guardDue then ((s.sampleGuard 0).sampleGuard 1).deliverAction else s

/-! ## Dispatch -/

/-- The better of the head found so far and entry `i` of the table: the earlier due time, and the lower index among equal
ones, the indexes being taken in rising order (R84). -/
def betterHead (es : Bank Entry 32) (best : Option (Fin 32 × Ticks)) (i : Fin 32) : Option (Fin 32 × Ticks) :=
  match es.get i with
  | .armed p _ _ =>
    match best with
    | none => some (i, p.due)
    | some b => if p.due < b.2 then some (i, p.due) else some b
  | _ => best

/-- The head of the due queue: the ARMED entry with the earliest due time, and the lowest index among those (R84). -/
def dueHead (es : Bank Entry 32) : Option (Fin 32) :=
  ((List.finRange 32).foldl (betterHead es) none).map Prod.fst

/-- An ARMED entry (R84). -/
def Entry.isArmed : Entry → Bool
  | .armed _ _ _ => true
  | _ => false

/-- The number of entries in the due queue (R84, R85). -/
def dueCount (es : Bank Entry 32) : Nat := es.count Entry.isArmed

/-- Step 2 of a dispatch: the link of entry `i` with nominal due time in `p` (R89). The answer says whether there was a
link miss. The notice of a step that comes after it makes an epoch-bound target DONE STALE (R102). -/
def State.followLink (i : Fin 32) (p : Plan) (s : State) : State × Bool :=
  match p.link with
  | none => (s, false)
  | some l =>
    let (s', missed) := s.requestArm l.entry (p.due.toNat + l.offset.toNat) (.linkMiss i)
    (if missed then s' else s'.noteArming l.entry, missed)

/-- The counts of an entry after a dispatch at time `t` (R91). -/
def Kept.fired (t : Ticks) (k : Kept) : Kept :=
  { k with fires := satAdd k.fires 1, lastFire := some t }

/-- Step 3 of a dispatch for a PERIODIC entry (R92): the occurrences passed over are charged as skips as far as the limit
reaches, and the entry is armed again or is done. -/
def refire (t : Ticks) (p : Plan) (k : Kept) (period : Span) : Entry :=
  let d := p.due.toNat
  let n := stepsPast t.toNat d period.toNat
  let next := d + n * period.toNat
  match k.remaining with
  | none =>
    let k' := { k with skips := satAdd k.skips (n - 1) }
    if next < Config.timeModulus then .armed (p.at next) k' false
    else .done .completed (p.at (d + (n - 1) * period.toNat)) k'
  | some r =>
    let left := r.toNat - 1
    let charged := min (n - 1) left
    let k' := { k with
      skips := satAdd k.skips charged, remaining := some (BitVec.ofNat 16 (left - charged)) }
    if charged < left ∧ next < Config.timeModulus then .armed (p.at next) k' false
    else .done .completed (p.at (d + charged * period.toNat)) k'

/-- The fate of a fired entry (R91, R92). -/
def fateOf (t : Ticks) (p : Plan) (k : Kept) : Entry :=
  match p.cadence with
  | .once => .done .completed p (k.fired t)
  | .periodic period _ => refire t p (k.fired t) period

/-- The lateness in a FIRE record: dispatch time minus nominal due time, saturating (R90). -/
def latenessOf (t due : Ticks) : BitVec 24 :=
  BitVec.ofNat 24 (min (t.toNat - due.toNat) Config.latenessBound)

/-- The dispatch of entry `i` (R87): the action, the link, the counts and fate, and the FIRE record where notify is yes. -/
def State.fire (order : ActionOrder) (i : Fin 32) (p : Plan) (k : Kept) (late : Bool) (s : State) : State :=
  let t := s.presented.time
  let (s, missed) := (s.handAction order p.deed).followLink i p
  let e := fateOf t p k
  let s := s.setEntry i e
  if p.notify then
    s.offer { time := t, epoch := s.presented.epoch, body := .fire i late (!e.isArmed) missed (latenessOf t p.due) }
  else s

/-- The entry that the decision of this cycle dispatches as the state stands: the head of the due queue, where the hold set is
empty and the head is due (R86). -/
def State.dispatchable (s : State) : Option (Fin 32) :=
  if s.disp.free then
    (dueHead s.sched.entries).filter fun i =>
      match s.entry i with
      | .armed p _ _ => decide (p.due ≤ s.presented.time)
      | _ => false
  else none

/-- The dispatchable head is dispatched (R86). -/
def State.dispatchHead (order : ActionOrder) (s : State) : State :=
  match s.dispatchable with
  | none => s
  | some i =>
    match s.entry i with
    | .armed p k late => s.fire order i p k late
    | _ => s

/-- The dispatch decision of this cycle, one in each cycle (R86). A decision after the first of a cycle does nothing. -/
def State.takeDispatch (order : ActionOrder) (s : State) : State :=
  if s.cyc.decided then s else (s.setCyc { s.cyc with decided := true }).dispatchHead order

/-! ## Pulse ends and the end of a trim window -/

/-- The end of a pulse whose count has reached 0 (R119). -/
def OutLine.endPulse (l : OutLine) : OutLine :=
  match l.pulse with
  | some p => if p.remaining = 0 then { l with level := l.idle, pulse := none } else l
  | none => l

/-- The pulse end of line `n` (R119); an end that finds no pulse at 0 does not happen (R120). -/
def State.endPulse (n : Fin 8) (s : State) : State := s.setOuts (s.outs.modify n OutLine.endPulse)

/-- At the end of cycle N of a trim window the written pair becomes the pair in force (R13). -/
def Timebase.endWindow (tb : Timebase) : Timebase :=
  if tb.inForce.window.cycles ≤ tb.position then
    { tb with inForce := tb.written, trimPending := false, position := 0 }
  else tb

end Sys2Proof.Machine
end

