-- ==== Sys2Proof/Machine/Layout.lean ====
section
/-! DEFINITION. What a read of each address of the register window shows (chapter 10, R180). Bits the layouts do not name
read 0 (log entry 16). -/

namespace Sys2Proof.Machine

/-- The low half of a byte, with four bits given from bit 0 upward. -/
def nibble (b0 b1 b2 b3 : Bool) : Byte :=
  bitAt 0 b0 ||| bitAt 1 b1 ||| bitAt 2 b2 ||| bitAt 3 b3

/-- Two nibbles in one byte, the low half first. -/
def twoNibbles (lo hi : Byte) : Byte := lo ||| (hi <<< 4)

/-- The TB status (R18): state, attribute, awaited line, trim-change-pending. -/
def Timebase.status (tb : Timebase) : Byte :=
  (match tb.state with
    | .stopped => 0
    | .running => 1
    | .slewing _ => 2
    | .slewEnding => 2
    | .awaitEdge w => 3 ||| bitAt 2 w.frozen ||| (BitVec.ofNat 8 w.line.val <<< 3)) |||
  bitAt 7 tb.trimPending

/-- One byte of the time window: seconds, fraction, epoch (R180). -/
def timeWindowByte (time : Ticks) (epoch : Epoch) (i : Nat) : Byte :=
  if i = 7 then epoch else byteOf 7 i time

/-- One byte of a capture line's configuration; the target bits under `none` are a free value (log entry 13). -/
def CapLine.configByte (fresh : Nat) (i : Nat) (l : CapLine) : Byte :=
  match i with
  | 0 => bitAt 0 l.enabled ||| (l.divisor.setWidth 8 <<< 1) ||| (l.qualMinus1.setWidth 8 <<< 4)
  | 1 => l.edges.code ||| bitAt 2 l.log
  | 2 =>
    if l.targetNone then bitAt 7 true ||| (Config.targetBitsWhenNone fresh l.target).setWidth 8
    else l.target.setWidth 8
  | i => byteOf 4 (i - 3) l.offset

/-- The capture status of a line (R57). -/
def CapLine.status (l : CapLine) : Byte :=
  nibble l.enabled (l.level == some .low) (l.level == some .high) l.run.isSome

/-- The output status of a line (R123). -/
def OutLine.status (l : OutLine) : Byte :=
  nibble (l.mode == .driven) l.idle.isHigh l.level.isHigh l.pulse.isSome

/-- Mode and idle level of four lines, from line `base` (R180). -/
def outConfigByte (outs : Bank OutLine 8) (a b c d : Fin 8) : Byte :=
  let two (n : Fin 8) : Byte := bitAt 0 ((outs.get n).mode == .driven) ||| bitAt 1 (outs.get n).idle.isHigh
  two a ||| (two b <<< 2) ||| (two c <<< 4) ||| (two d <<< 6)

/-- The safe levels of four lines (R180). -/
def safeByte (safe : Bank SafeLevel 8) (a b c d : Fin 8) : Byte :=
  (safe.get a).code ||| ((safe.get b).code <<< 2) ||| ((safe.get c).code <<< 4) ||| ((safe.get d).code <<< 6)

/-- A guard line's configuration byte (R180). -/
def GuardLine.configByte (l : GuardLine) : Byte :=
  bitAt 0 l.enabled ||| bitAt 1 l.activeLevel.isHigh ||| (l.qual.setWidth 8 <<< 4)

/-- The code of a guard line's state (R180). -/
def GuardState.code : GuardState → Byte
  | .inactive => 0
  | .toActive _ => 1
  | .active => 2
  | .toInactive _ => 3

/-- The guard status (R157). -/
def GuardUnit.status (g : GuardUnit) : Byte :=
  let l0 := g.lines.get 0
  let l1 := g.lines.get 1
  bitAt 0 g.tripped ||| bitAt 1 l0.enabled ||| (l0.state.code <<< 2) ||| bitAt 4 l1.enabled ||| (l1.state.code <<< 5)

/-- T as it reads back: a negative zero reads 0 (R10). -/
def Trim.signByte (t : Trim) : Byte :=
  bitAt 7 (t.negative && t.magnitude != 0) ||| (t.magnitude >>> 8).setWidth 8

/-- The queue's configuration byte (R180). -/
def RecordQueue.configByte (q : RecordQueue) : Byte :=
  q.threshold.setWidth 8 ||| bitAt 6 (q.policy == .keepNewest) ||| bitAt 7 q.autoPop

/-- The dispatcher status, second byte; the head bits of an empty queue are a free value (R85, log entry 14). -/
def headIndexByte (fresh : Nat) (es : Bank Entry 32) : Byte :=
  match dueHead es with
  | some i => BitVec.ofNat 8 i.val
  | none => bitAt 7 true ||| (Config.headBitsWhenEmpty fresh).setWidth 8

/-- The reason of SCH_FAULT (R108). -/
def SchedFault.reason : SchedFault → Byte
  | .none => 0
  | .linkMiss _ => 1
  | .trigMiss _ => 2
  | .trigStale _ => 3

/-- The index of SCH_FAULT (R108). -/
def SchedFault.index : SchedFault → Byte
  | .none => 0
  | .linkMiss i => BitVec.ofNat 8 i.val
  | .trigMiss n => BitVec.ofNat 8 n.val
  | .trigStale n => BitVec.ofNat 8 n.val

/-! ## Head record -/

/-- The kind of a record (R180). -/
def Body.kind : Body → Byte
  | .edge _ _ _ _ _ => 1
  | .fire _ _ _ _ _ => 2
  | .guard _ _ => 3
  | .step _ _ _ => 4

/-- The source code of a STEP record (R180). -/
def StepSource.code : StepSource → Byte
  | .load => 0
  | .jump => 1
  | .edgeLoad => 2
  | .wrap => 3
  | .slewEnd => 4
  | .slewCancel => 5

/-- The source byte of a record (R180). -/
def Body.source : Body → Byte
  | .edge n _ _ _ _ => BitVec.ofNat 8 n.val
  | .fire i _ _ _ _ => BitVec.ofNat 8 i.val
  | .guard n _ => BitVec.ofNat 8 n.val
  | .step src _ _ => src.code

/-- The flags byte of a record (R180). -/
def Body.flags : Body → Byte
  | .edge _ rising frozen trigger _ =>
    nibble rising (!rising) frozen (trigger == .miss) ||| bitAt 4 (trigger == .stale)
  | .fire _ late final miss _ => nibble late final miss false
  | .guard _ frozen => bitAt 2 frozen
  | .step _ backward _ => bitAt 0 backward

/-- The argument of a record in 24 bits, in two's complement for STEP (R180). -/
def Body.argument : Body → BitVec 24
  | .edge _ _ _ _ q => BitVec.ofNat 24 q
  | .fire _ _ _ _ lateness => lateness
  | .guard _ _ => 0
  | .step _ _ amount => BitVec.ofInt 24 amount

/-- Byte `i` of a head record; an empty queue shows NONE, all zeros (R129, R180). -/
def headByte (r : Option Record) (i : Nat) : Byte :=
  match r with
  | none => 0
  | some r =>
    match i with
    | 0 => r.offer.body.kind
    | 1 => byteOf 2 0 r.seq
    | 2 => byteOf 2 1 r.seq
    | 3 => r.offer.epoch
    | 11 => r.offer.body.source
    | 12 => r.offer.body.flags
    | i => if i < 11 then byteOf 7 (i - 4) r.offer.time else byteOf 3 (i - 13) r.offer.body.argument

/-! ## Staging record -/

/-- Byte `i` of the staging record; the sign in byte 0 and the last seven bytes are the timebase's (R65, R180). -/
def stagingByte (g : Staging) (t : StagedTime) (i : Nat) : Byte :=
  match i with
  | 0 => bitAt 0 g.periodic ||| bitAt 1 g.drop ||| (g.action.code <<< 2) ||| bitAt 5 g.notify |||
      bitAt 6 g.epochBound ||| bitAt 7 t.negative
  | 1 => g.line.setWidth 8 ||| bitAt 6 g.limitPresent ||| bitAt 7 g.linkPresent
  | 2 => g.link
  | i =>
    if i < 10 then byteOf 7 (i - 3) g.due
    else if i < 13 then byteOf 3 (i - 10) g.width
    else if i < 18 then byteOf 5 (i - 13) g.period
    else if i < 20 then byteOf 2 (i - 18) g.limit
    else if i < 25 then byteOf 5 (i - 20) g.linkOffset
    else byteOf 7 (i - 25) t.value

/-! ## View record -/

/-- The line of an action, where it has one (R62). -/
def Deed.line : Deed → Option (Fin 8)
  | .none => Option.none
  | .set n => some n
  | .clear n => some n
  | .toggle n => some n
  | .pulse n _ => some n

/-- The pulse width of an action, where it has one (R62). -/
def Deed.width : Deed → Option (BitVec 24)
  | .pulse _ w => some w
  | _ => Option.none

/-- The code of an action (R180). -/
def Deed.code : Deed → Byte
  | .none => 0
  | .set _ => 1
  | .clear _ => 2
  | .toggle _ => 3
  | .pulse _ _ => 4

/-- The period of an entry, where it has one (R62). -/
def Cadence.period : Cadence → Option Span
  | .once => none
  | .periodic p _ => some p

/-- The limit of an entry, where it has one (R62). -/
def Cadence.limit : Cadence → Option Count
  | .once => none
  | .periodic _ l => l

/-- The code of an outcome (R180). -/
def Fate.code : Fate → Byte
  | .completed => 1
  | .cancelled => 2
  | .skipped => 3
  | .stale => 4

/-- State and outcome of an entry in one byte (R180). -/
def Entry.stateByte : Entry → Byte
  | .free => 0
  | .parked _ _ => 1
  | .armed _ _ _ => 2
  | .done f _ _ => 3 ||| (f.code <<< 2)

/-- The fields of an entry that is not FREE, with its late mark. -/
def Entry.fields : Entry → Option (Plan × Kept × Bool)
  | .free => none
  | .parked p k => some (p, k, false)
  | .armed p k late => some (p, k, late)
  | .done _ p k => some (p, k, false)

/-- Byte `i` of an `n`-byte field that may be absent; the bytes of an absent field are a free value (log entry 15). -/
def optionalByte {w : Nat} (fresh off n i : Nat) (x : Option (BitVec w)) : Byte :=
  match x with
  | some v => byteOf n i v
  | none => Config.viewByteWhenAbsent fresh off

/-- Byte `i` of the fields of an entry that is not FREE (R80, R180). -/
def viewFieldByte (fresh : Nat) (p : Plan) (k : Kept) (late : Bool) (i : Nat) : Byte :=
  match i with
  | 2 => bitAt 0 p.cadence.period.isSome ||| bitAt 1 (p.late == .drop) ||| bitAt 2 p.notify |||
      bitAt 3 p.epochBound ||| bitAt 4 late
  | 3 => bitAt 0 p.deed.line.isSome ||| bitAt 1 p.deed.width.isSome ||| bitAt 2 p.cadence.period.isSome |||
      bitAt 3 p.cadence.limit.isSome ||| bitAt 4 p.link.isSome ||| bitAt 5 p.link.isSome |||
      bitAt 6 k.remaining.isSome ||| bitAt 7 k.lastFire.isSome
  | 4 => bitAt 0 k.armedEpoch.isSome
  | 5 => p.deed.code
  | 6 => optionalByte fresh 6 1 0 (p.deed.line.map fun n => BitVec.ofNat 8 n.val)
  | 7 => optionalByte fresh 7 1 0 (p.link.map fun l => BitVec.ofNat 8 l.entry.val)
  | 43 => optionalByte fresh 43 1 0 k.armedEpoch
  | i =>
    if i < 15 then byteOf 7 (i - 8) p.due
    else if i < 18 then optionalByte fresh i 3 (i - 15) p.deed.width
    else if i < 23 then optionalByte fresh i 5 (i - 18) p.cadence.period
    else if i < 25 then optionalByte fresh i 2 (i - 23) p.cadence.limit
    else if i < 30 then optionalByte fresh i 5 (i - 25) (p.link.map Link.offset)
    else if i < 32 then optionalByte fresh i 2 (i - 30) k.remaining
    else if i < 34 then byteOf 2 (i - 32) k.fires
    else if i < 36 then byteOf 2 (i - 34) k.skips
    else if i < 43 then optionalByte fresh i 7 (i - 36) k.lastFire
    else 0

/-- Byte `i` of the view record; a FREE entry shows its index and zeros (R80, R180). -/
def View.byte (fresh : Nat) (v : View) (i : Nat) : Byte :=
  match i with
  | 0 => BitVec.ofNat 8 v.index.val
  | 1 => v.entry.stateByte
  | i =>
    match v.entry.fields with
    | none => 0
    | some (p, k, late) => viewFieldByte fresh p k late i

/-! ## The register window -/

/-- A read of the paged region in page 1: capture configuration (R180). -/
def State.readPage1 (s : State) (a : Nat) : Byte :=
  if h : (a - 8) / 7 < 6 then (s.cap.get ⟨(a - 8) / 7, h⟩).configByte s.fresh ((a - 8) % 7) else 0

/-- A read of the paged region in page 2: other configuration, status and identity (R180). -/
def State.readPage2 (s : State) (a : Nat) : Byte :=
  match a with
  | 0x08 => outConfigByte s.outs 0 1 2 3
  | 0x09 => outConfigByte s.outs 4 5 6 7
  | 0x0A => (s.guard.lines.get 0).configByte
  | 0x0B => (s.guard.lines.get 1).configByte
  | 0x0C => safeByte s.guard.safe 0 1 2 3
  | 0x0D => safeByte s.guard.safe 4 5 6 7
  | 0x0E => s.tb.written.signByte
  | 0x0F => s.tb.written.magnitude.setWidth 8
  | 0x10 => s.tb.written.window.code
  | 0x11 => s.tb.rate.setWidth 8
  | 0x12 => s.trq.configByte
  | 0x13 => s.tb.status
  | 0x14 => s.sp.snapshot.status
  | 0x15 => twoNibbles (s.cap.get 0).status (s.cap.get 1).status
  | 0x16 => twoNibbles (s.cap.get 2).status (s.cap.get 3).status
  | 0x17 => twoNibbles (s.cap.get 4).status (s.cap.get 5).status
  | 0x18 => twoNibbles (s.outs.get 0).status (s.outs.get 1).status
  | 0x19 => twoNibbles (s.outs.get 2).status (s.outs.get 3).status
  | 0x1A => twoNibbles (s.outs.get 4).status (s.outs.get 5).status
  | 0x1B => twoNibbles (s.outs.get 6).status (s.outs.get 7).status
  | 0x1C => s.guard.status
  | 0x1D => bitAt 0 s.disp.holdHost ||| bitAt 1 s.disp.holdGuard |||
      (BitVec.ofNat 8 (dueCount s.sched.entries) <<< 2)
  | 0x1E => headIndexByte s.fresh s.sched.entries
  | 0x1F => BitVec.ofNat 8 s.trq.records.length
  | 0x20 => byteOf 2 0 s.trq.nextSeq
  | 0x21 => byteOf 2 1 s.trq.nextSeq
  | 0x22 => s.disp.fault.reason
  | 0x23 => s.disp.fault.index
  | 0x24 => s.icu.result.strobe
  | 0x25 => s.icu.result.code.byte
  | a => (Config.identity[a - 0x26]?).getD 0

/-- A live read of an address (R171, R174, R175, R180): strobes and unmapped addresses read 0. -/
def State.readLive (s : State) (addr : Addr) : Byte :=
  let a := addr.toNat
  if a < 0x08 then timeWindowByte s.tb.time s.tb.epoch a
  else if a < 0x38 then
    (match s.sp.page with
      | 0 => s.sched.view.byte s.fresh (a - 0x08)
      | 1 => s.readPage1 a
      | _ => s.readPage2 a)
  else if a < 0x48 then headByte s.trq.records.head? (a - 0x38)
  else if a < 0x68 then stagingByte s.sched.staging s.tb.staged (a - 0x48)
  else if a < 0x7D then 0
  else if a = 0x7D then BitVec.ofNat 8 s.sp.page.val
  else if a = 0x7E then s.pendingByte
  else s.icu.enables.setWidth 8

/-- The byte a read transaction fetches at an address: from its latch, or live (R176, R177). -/
def State.readFrom (s : State) (source : Source) (addr : Addr) : Byte :=
  match source with
  | .live => s.readLive addr
  | .snapshot => timeWindowByte s.sp.snapshot.time s.sp.snapshot.epoch addr.toNat
  | .head copy _ => headByte copy (addr.toNat - 0x38)

/-- The fetch that falls due in a cycle: the port loads the byte at the pointer (R171). -/
def State.fetch (s : State) : State :=
  match s.sp.fetchDue, s.sp.tx with
  | true, .reading pointer source =>
    (s.setSp { s.sp with shift := s.readFrom source pointer, fetchDue := false }).setFresh (s.fresh + 1)
  | true, _ => s.setSp { s.sp with fetchDue := false }
  | false, _ => s

/-- What an output pin shows: the level of a DRIVEN line, and high impedance for an OFF line (R115). -/
def OutLine.pin (l : OutLine) : PinLevel :=
  match l.mode, l.level with
  | .off, _ => .highZ
  | .driven, .low => .low
  | .driven, .high => .high

/-- What MISO shows (R170): high impedance while CS_N is high in the cycle, be it too short to end the transaction, and
without a transaction; low in the address byte and in a write; the fetched byte in a read. While CS_N is low and ignored the
spec states nothing: a free value (log entry 31). -/
def State.miso (s : State) : Miso :=
  if s.pins.now.csLow then
    match s.sp.tx with
    | .idle => .highZ
    | .addressing => .low
    | .writing _ => .low
    | .reading _ _ => .shifting s.sp.shift
    | .ignored => Config.misoWhenIgnored s.fresh
  else .highZ

/-- The output pins take the state as it stands at the end of a cycle (R115, R164, R170). -/
def State.refreshPins (s : State) : State :=
  s.setPins { s.pins with outs := s.outs.map OutLine.pin, irqLow := s.irqLow, miso := s.miso }

end Sys2Proof.Machine
end

