-- ==== Sys2Proof/Machine/Cycle.lean ====
section
/-! DEFINITION. A REFCLK cycle from one edge to the next: how it ends, and how a counting or a frozen cycle begins
(R2, R3, R5, R6, R12, R15, R16). -/

namespace Sys2Proof.Machine

/-! ## The end of a cycle -/

/-- The samples of this cycle that have not been taken, guard lines first, then the capture lines in rising order. -/
def State.takeSamples (s : State) : State :=
  (List.finRange 6).foldl (fun s n => s.takeCapture n) s.takeGuard

/-- The pulse ends of this cycle that have not been taken (R119). -/
def State.endPulses (s : State) : State := s.setOuts (s.outs.map OutLine.endPulse)

/-- The end of a trim window, where this cycle is the last of it and it has not been taken (R13). -/
def State.endWindow (s : State) : State := s.setTb s.tb.endWindow

/-- From the cycle after its last modification a slew is over (R33). -/
def Timebase.endSlew (tb : Timebase) : Timebase :=
  match tb.state with
  | .slewEnding => { tb with state := .running }
  | _ => tb

/-- The end of a REFCLK cycle. Every event of the cycle that no command has taken is taken now, in one fixed order
(DESIGN CHOICE, log entry 2); then the port takes the cycle's offers (R131), the port fetches a read byte (R171), and the
pins show the state (R115). -/
def State.endCycle (s : State) : State :=
  let s := s.takeSamples.takeWrap.offerSlewEnd.deliverAction
  let s := (s.endPulses.takeDispatch .actionFirst).endWindow
  let s := s.drainAll.fetch.refreshPins
  s.setTb s.tb.endSlew

/-! ## The blocks that count REFCLK cycles -/

/-- One cycle of a capture line's interval count: a sample falls on every 2^d-th cycle of it, the first in the cycle after
the one from which it counts (R45). -/
def CapLine.tick (l : CapLine) : CapLine :=
  if l.enabled then
    { l with
      due := l.interval == 0
      interval := BitVec.ofNat 7 ((l.interval.toNat + 1) % 2 ^ l.divisor.toNat) }
  else { l with due := false }

/-- One cycle of a pulse's remaining count (R119). -/
def OutLine.tick (l : OutLine) : OutLine :=
  match l.pulse with
  | some p => { l with pulse := some { p with remaining := p.remaining - 1 } }
  | none => l

/-- One cycle of a guard line: in a guard sample cycle an enabled line's sample falls due, to be judged by its active level and
n as they stand now (R148, R151). -/
def GuardLine.tick (sampleCycle : Bool) (l : GuardLine) : GuardLine :=
  { l with due := if sampleCycle && l.enabled then some { activeLevel := l.activeLevel, qual := l.qual } else none }

/-- The guard unit's sample clock counts the cycle; every 65,536th is a guard sample cycle (R148). -/
def GuardUnit.tick (g : GuardUnit) : GuardUnit :=
  { g with clock := g.clock + 1, lines := g.lines.map (GuardLine.tick (g.clock + 1 == 0)) }

/-- The port sees CS_N low: a transaction opens with its address byte, or, while RESET_N is low, CS_N is ignored until it
rises (R170, R178, log entry 18). -/
def SerialPort.select (resetLow : Bool) (sp : SerialPort) : SerialPort :=
  match sp.tx with
  | .idle => { sp with tx := if resetLow then .ignored else .addressing }
  | _ => sp

/-- What every REFCLK cycle moves, counting or frozen: the synchroniser takes the pins (R45, R148), the port sees CS_N, the
interval counts, the guard sample clock (R148) and the pulses (R119) count, and the cycle's own bookkeeping starts
afresh. -/
def State.tick (pins : InputPins) (frozen : Bool) (s : State) : State :=
  let s := s.setPins { s.pins with now := pins, before := s.pins.now, sampled := s.pins.before }
  let s := s.setSp (if pins.csLow then s.sp.select s.resetLow else s.sp)
  let s := (s.setCap (s.cap.map CapLine.tick)).setOuts (s.outs.map OutLine.tick)
  let s := (s.setGuard s.guard.tick).setFresh (s.fresh + 1)
  s.setCyc
    { frozen := frozen, wrapDue := false, slewEndDue := none, notices := [], decided := false, action := none,
      offers := [], earlySkips := .fill 32 false }

/-! ## Counting -/

/-- A counting cycle belongs to RUNNING, SLEWING and AWAIT_EDGE with the running attribute (R4). -/
def TbState.counting : TbState → Bool
  | .stopped => false
  | .running => true
  | .slewing _ => true
  | .slewEnding => true
  | .awaitEdge w => !w.frozen

/-- Cycle i of a window of N cycles is trim-modified for a trim value of magnitude m when ⌊i·m/N⌋ > ⌊(i − 1)·m/N⌋
(R11). -/
def trimMarked (i m n : Nat) : Bool := decide ((i - 1) * m / n < i * m / n)

/-- The next cycle to count in the trim window is trim-modified (R11, R12). -/
def Timebase.trimModified (tb : Timebase) : Bool :=
  trimMarked (tb.position + 1) tb.inForce.magnitude.toNat tb.inForce.window.cycles

/-- A slew modification falls due on the next counting cycle (R15). -/
def Slew.fallsDue (sl : Slew) : Bool := decide ((sl.count + 1) % 2 ^ sl.rate.toNat = 0)

/-- A slew modification is applied on the next counting cycle: one that falls due or stands deferred, where the cycle is
not trim-modified (R15, R16). -/
def Slew.applies (sl : Slew) (trimModified : Bool) : Bool := (sl.fallsDue || sl.deferred) && !trimModified

/-- One tick in the direction of a signed amount. -/
def tickToward (a : Int) : Int := if 0 < a then 1 else if a < 0 then -1 else 0

/-- The slew after a counting cycle (R15, R16, R32). -/
def Slew.count1 (trimModified : Bool) (sl : Slew) : Slew :=
  { sl with
    count := sl.count + 1
    deferred := (sl.fallsDue || sl.deferred) && trimModified
    remainder := if sl.applies trimModified then sl.remainder - tickToward sl.remainder else sl.remainder }

/-- The trim's share of the advance of the next counting cycle (R3). -/
def Timebase.trimTick (tb : Timebase) : Int :=
  if tb.trimModified then tickToward tb.inForce.value else 0

/-- The slew's share of the advance of the next counting cycle (R3). -/
def Timebase.slewTick (tb : Timebase) : Int :=
  match tb.state with
  | .slewing sl => if sl.applies tb.trimModified then tickToward sl.remainder else 0
  | _ => 0

/-- The advance of the next counting cycle: 0, 1 or 2 ticks (R3). -/
def Timebase.advance (tb : Timebase) : Nat := (1 + tb.trimTick + tb.slewTick).toNat

/-- The value the next counting cycle gives, as a plain number before any wrap (R5, R27). -/
def Timebase.counted (tb : Timebase) : Nat := tb.time.toNat + tb.advance

/-- The state after a counting cycle: a slew counts the cycle, and ends where its remainder reaches 0 (R5, R33). -/
def Timebase.countedState (tb : Timebase) : TbState :=
  match tb.state with
  | .slewing sl =>
    if (sl.count1 tb.trimModified).remainder = 0 then .slewEnding else .slewing (sl.count1 tb.trimModified)
  | st => st

/-- The starting amount of a slew that ends on the next counting cycle (R33). -/
def Timebase.slewEnds (tb : Timebase) : Option Int :=
  match tb.state with
  | .slewing sl => if (sl.count1 tb.trimModified).remainder = 0 then some sl.start else none
  | _ => none

/-- The timebase after a counting cycle (R5, R12, R17). -/
def Timebase.countCycle (tb : Timebase) : Timebase :=
  { tb with
    time := BitVec.ofNat 56 tb.counted
    position := tb.position + 1
    state := tb.countedState }

/-- A counting cycle begins (R5): the time value moves on by the advance, the trim window and the slew count the cycle, a
slew may end (R33). Where the value passes 2^56 − 1 the wrap is due in this cycle (R17). A SLEW_END waits for it (R23), and
waits too where it is to be taken after the cycle's other events (log entry 6). -/
def State.beginCounting (pins : InputPins) (order : EndOrder) (s : State) : State :=
  let tb := s.tb
  let s := (s.tick pins false).setTb tb.countCycle
  let s := s.setCyc
    { s.cyc with wrapDue := decide (Config.timeModulus ≤ tb.counted), slewEndDue := tb.slewEnds }
  match order with
  | .endFirst => if s.cyc.wrapDue then s else s.offerSlewEnd
  | .endLast => s

/-- A frozen cycle begins (R6): the time value and the trim window hold. -/
def State.beginFrozen (pins : InputPins) (s : State) : State := s.tick pins true

end Sys2Proof.Machine
end

