-- ==== Sys2Proof/Machine/Outputs.lean ====
section
/-! DEFINITION. The output unit's rows: PULSE_END, OUT_SET, OUT_CLEAR, MODE_WRITE, IDLE_LEVEL_WRITE (chapter 6), and how a
register write moves the address pointer (R172). -/

namespace Sys2Proof.Machine

/-! ## The address pointer -/

/-- The address after a data byte (R172): windows wrap, a strobe stays, ordinary registers step. -/
def nextAddr (page : Fin 3) (addr : Addr) : Addr :=
  let a := addr.toNat
  if a = 0x07 then 0x00
  else if a = 0x37 then if page = 0 then 0x08 else 0x38
  else if a = 0x47 then 0x38
  else if a = 0x67 then 0x48
  else if 0x68 ≤ a ∧ a < 0x7D then addr
  else addr + 1

/-- The pointer steps after the data byte of a write at `addr`, where a write transaction points there (R172). -/
def State.stepWrite (addr : Addr) (s : State) : State :=
  match s.sp.tx with
  | .writing pointer =>
    if pointer = addr then s.setSp { s.sp with tx := .writing (nextAddr s.sp.page addr) } else s
  | _ => s

/-- A data byte written to a register, where the port takes it: its owner takes it, and the pointer steps (R171, R172). -/
def State.writeAt (addr : Addr) (owner : State → State) (s : State) : State :=
  if s.takesBytes then (owner s).stepWrite addr else s

/-- The same for a register of the paged region: the pointer stands at it only where that page is selected (R173). -/
def State.writePaged (page : Fin 3) (addr : Addr) (owner : State → State) (s : State) : State :=
  if s.takesBytes then (if s.sp.page = page then (owner s).stepWrite addr else owner s) else s

/-! ## Lines -/

/-- A force command (R121). -/
def State.force (v : Level) (arg : Byte) (s : State) : State × ResultCode :=
  match indexOf 8 arg with
  | none => (s, .badIndex)
  | some n =>
    if s.guard.tripped then (s, .guardActive)
    else (s.setOuts (s.outs.modify n (OutLine.force v)), .ok)

/-- A write of the mode of line `n` (R113): the pin changes, level and pulse stay. -/
def State.writeMode (n : Fin 8) (m : Mode) (s : State) : State :=
  s.setOuts (s.outs.modify n fun l => { l with mode := m })

/-- A write of the idle level of line `n` (R114): level and pulse stay. -/
def State.writeIdle (n : Fin 8) (v : Level) (s : State) : State :=
  s.setOuts (s.outs.modify n fun l => { l with idle := v })

/-- The address of the byte that holds mode and idle level of line `n` (R180). -/
def outConfigAddr (n : Fin 8) : Addr := if n.val < 4 then 0x08 else 0x09

/-- PULSE_END (R119). -/
def execPulseEnd (n : Fin 8) (s : State) : Host.Outcome State Fault Refusal :=
  .next (s.endPulse n)

/-- OUT_SET, strobe 0x77 (R121). -/
def execOutSet (arg : Byte) (s : State) : Host.Outcome State Fault Refusal :=
  .next (s.command 0x77 (State.force .high arg))

/-- OUT_CLEAR, strobe 0x78 (R121). -/
def execOutClear (arg : Byte) (s : State) : Host.Outcome State Fault Refusal :=
  .next (s.command 0x78 (State.force .low arg))

/-- MODE_WRITE (R113): the byte that holds the line's mode, its other fields written as they stand. -/
def execModeWrite (n : Fin 8) (m : Mode) (s : State) : Host.Outcome State Fault Refusal :=
  .next (s.writePaged 2 (outConfigAddr n) (State.writeMode n m))

/-- IDLE_LEVEL_WRITE (R114): the byte that holds the line's idle level, its other fields written as they stand. -/
def execIdleLevelWrite (n : Fin 8) (v : Level) (s : State) : Host.Outcome State Fault Refusal :=
  .next (s.writePaged 2 (outConfigAddr n) (State.writeIdle n v))

end Sys2Proof.Machine
end

