-- ==== Sys2Proof/Machine/Timebase.lean ====
section
/-! DEFINITION. The timebase's rows: the REFCLK cycles, the wrap, the end of a trim window, and the commands TB_START to
TB_CANCEL_EDGE (chapters 1 and 2). -/

namespace Sys2Proof.Machine

/-! ## REFCLK cycles -/

/-- The next REFCLK cycle is a counting one, of which `p` holds at its start: the cycle before it ends and it begins.
Where it is not such a cycle, the event does not occur and nothing changes (log entry 4). -/
def State.countingCycleIf (p : Timebase → Bool) (c : CountingOperands) (s : State) : State :=
  let e := s.endCycle
  if e.tb.state.counting && p e.tb then e.beginCounting c.pins c.order else s

/-- COUNTING_CYCLE (R5). -/
def execCountingCycle (c : CountingOperands) (s : State) : Host.Outcome State Fault Refusal :=
  .next (s.countingCycleIf (fun _ => true) c)

/-- FROZEN_CYCLE (R6). Where the next cycle is a counting one, the event does not occur (log entry 4). -/
def execFrozenCycle (pins : InputPins) (s : State) : Host.Outcome State Fault Refusal :=
  .next (if s.endCycle.tb.state.counting then s else s.endCycle.beginFrozen pins)

/-- A slew modification falls due on the next counting cycle (R15). -/
def Timebase.modificationDue (tb : Timebase) : Bool :=
  match tb.state with
  | .slewing sl => sl.fallsDue
  | _ => false

/-- A deferred slew modification is applied on the next counting cycle (R16). -/
def Timebase.deferredApplies (tb : Timebase) : Bool :=
  match tb.state with
  | .slewing sl => sl.deferred && !tb.trimModified
  | _ => false

/-- SLEW_MODIFICATION (R15): the counting cycle on which a slew modification falls due, which applies it or, where the
cycle is trim-modified, defers it (R16). -/
def execSlewModification (c : CountingOperands) (s : State) : Host.Outcome State Fault Refusal :=
  .next (s.countingCycleIf Timebase.modificationDue c)

/-- DEFERRED_SLEW_MODIFICATION (R16): the counting cycle on which a deferred modification is applied. -/
def execDeferredSlewModification (c : CountingOperands) (s : State) : Host.Outcome State Fault Refusal :=
  .next (s.countingCycleIf Timebase.deferredApplies c)

/-- TRIM_WINDOW_END (R13): at the end of cycle N. -/
def execTrimWindowEnd (s : State) : Host.Outcome State Fault Refusal :=
  .next s.endWindow

/-- WRAP (R17): the wrap of this cycle, with its notice (R100). -/
def execWrap (s : State) : Host.Outcome State Fault Refusal :=
  .next s.takeWrap

/-! ## TB_START and TB_STOP -/

/-- The timebase in another state. -/
def State.setTbState (st : TbState) (s : State) : State := s.setTb { s.tb with state := st }

/-- TB_START (R7). -/
def State.tbStart (s : State) : State × ResultCode :=
  match s.tb.state with
  | .stopped => (s.setTbState .running, .ok)
  | .awaitEdge _ => (s, .tbBusy)
  | _ => (s, .badState)

/-- TB_STOP (R8): a slew is cancelled with its SLEW_CANCEL record, after the wrap of the cycle if there is one (R23); a slew
that ended on this cycle has its SLEW_END instead, already offered or still to be taken in the cycle. -/
def State.tbStop (s : State) : State × ResultCode :=
  match s.tb.state with
  | .stopped => (s, .badState)
  | .running => (s.setTbState .stopped, .ok)
  | .slewing sl => ((s.takeWrap.offerStep .slewCancel false sl.remainder).setTbState .stopped, .ok)
  | .slewEnding => (s.setTbState .stopped, .ok)
  | .awaitEdge _ => (s, .tbBusy)

/-! ## TB_LOAD, TB_JUMP, TB_SLEW -/

/-- The slew is cancelled by a load: its SLEW_CANCEL record, or the SLEW_END of a slew that ended on this cycle, comes
before the load (R26). -/
def State.cancelSlew (s : State) : State :=
  match s.tb.state with
  | .slewing sl => (s.offerStep .slewCancel false sl.remainder).setTbState .running
  | .slewEnding => s.offerSlewEnd.setTbState .running
  | _ => s

/-- TB_LOAD (R25, R26). -/
def State.tbLoad (order : NoticeOrder) (s : State) : State × ResultCode :=
  match s.tb.state with
  | .awaitEdge _ => (s, .tbBusy)
  | _ => (((s.cancelSlew.stepTime s.tb.staged.value .load false 0).giveNotice true).orderNotice order, .ok)

/-- The base of a jump: the value this cycle has by counting, as a plain number before any wrap (R27). -/
def State.jumpBase (s : State) : Nat :=
  s.tb.time.toNat + if s.cyc.wrapDue then Config.timeModulus else 0

/-- TB_JUMP (R27, R28). DEDUCED (log entry 30): an amount of 0 is checked as any other, so that on a cycle whose counted base
passes 2^56 − 1 it is refused with BAD_FIELD and the wrap stands, although R27 says that an amount of zero passes. -/
def State.tbJump (order : NoticeOrder) (s : State) : State × ResultCode :=
  match s.tb.state with
  | .slewing _ => (s, .tbBusy)
  | .slewEnding => (s, .tbBusy)
  | .awaitEdge _ => (s, .tbBusy)
  | _ =>
    let amount := s.tb.staged.amount
    let value := (s.jumpBase : Int) + amount
    if value < 0 ∨ (Config.timeModulus : Int) ≤ value then (s, .badField)
    else
      (((s.stepTime (BitVec.ofInt 56 value) .jump (decide (amount < 0)) (clipAmount amount)).giveNotice
        true).orderNotice order, .ok)

/-- TB_SLEW (R30, R31). -/
def State.tbSlew (s : State) : State × ResultCode :=
  match s.tb.state with
  | .stopped => (s, .tbStopped)
  | .running =>
    if s.tb.staged.value.toNat = 0 ∨ Config.amountBound < s.tb.staged.value.toNat then (s, .badField)
    else
      (s.setTbState (.slewing
        { remainder := s.tb.staged.amount, rate := s.tb.rate, count := 0, start := s.tb.staged.amount,
          deferred := false }), .ok)
  | _ => (s, .tbBusy)

/-! ## TB_LOAD_EDGE and TB_CANCEL_EDGE -/

/-- TB_LOAD_EDGE from STOPPED or RUNNING (R36, R37). -/
def State.startEdgeLoad (frozen : Bool) (arg : Byte) (s : State) : State × ResultCode :=
  match indexOf 6 arg with
  | none => (s, .badIndex)
  | some n =>
    if !(s.cap.get n).enabled then (s, .badState)
    else if Config.edgeLoadBound < s.tb.staged.value.toNat then (s, .badField)
    else (s.setTbState (.awaitEdge { target := s.tb.staged.value, line := n, frozen := frozen }), .ok)

/-- TB_LOAD_EDGE (R36, R37). -/
def State.tbLoadEdge (arg : Byte) (s : State) : State × ResultCode :=
  match s.tb.state with
  | .stopped => s.startEdgeLoad true arg
  | .running => s.startEdgeLoad false arg
  | _ => (s, .tbBusy)

/-- The state a cancelled edge-aligned load leaves (R4, R40, R41). -/
def EdgeWait.cancelled (w : EdgeWait) : TbState := if w.frozen then .stopped else .running

/-- TB_CANCEL_EDGE (R40). -/
def State.tbCancelEdge (s : State) : State × ResultCode :=
  match s.tb.state with
  | .awaitEdge w => (s.setTbState w.cancelled, .ok)
  | _ => (s, .badState)

/-- TB_START, strobe 0x68. -/
def execTbStart (_arg : Byte) (s : State) : Host.Outcome State Fault Refusal :=
  .next (s.command 0x68 State.tbStart)

/-- TB_STOP, strobe 0x69. -/
def execTbStop (_arg : Byte) (s : State) : Host.Outcome State Fault Refusal :=
  .next (s.command 0x69 State.tbStop)

/-- TB_LOAD, strobe 0x6A. -/
def execTbLoad (_arg : Byte) (order : NoticeOrder) (s : State) : Host.Outcome State Fault Refusal :=
  .next (s.command 0x6A (State.tbLoad order))

/-- TB_JUMP, strobe 0x6B. -/
def execTbJump (_arg : Byte) (order : NoticeOrder) (s : State) : Host.Outcome State Fault Refusal :=
  .next (s.command 0x6B (State.tbJump order))

/-- TB_SLEW, strobe 0x6C. -/
def execTbSlew (_arg : Byte) (s : State) : Host.Outcome State Fault Refusal :=
  .next (s.command 0x6C State.tbSlew)

/-- TB_LOAD_EDGE, strobe 0x6D. -/
def execTbLoadEdge (arg : Byte) (s : State) : Host.Outcome State Fault Refusal :=
  .next (s.command 0x6D (State.tbLoadEdge arg))

/-- TB_CANCEL_EDGE, strobe 0x6E. -/
def execTbCancelEdge (_arg : Byte) (s : State) : Host.Outcome State Fault Refusal :=
  .next (s.command 0x6E State.tbCancelEdge)

end Sys2Proof.Machine
end

