-- ==== Sys2Proof/Machine/Registers.lean ====
section
/-! DEFINITION. The queue's rows (chapter 7), the pending and enable registers (chapter 9), the timebase's registers
(chapter 1), the page select and the staging record. -/

namespace Sys2Proof.Machine

/-! ## Time record queue -/

/-- Q_POP (R139). -/
def State.qPop (s : State) : State × ResultCode :=
  let s := s.drainReady
  match s.trq.records with
  | [] => (s, .qEmpty)
  | _ :: _ => (s.setTrq s.trq.pop, .ok)

/-- Q_FLUSH (R143). -/
def State.qFlush (s : State) : State × ResultCode :=
  let s := s.drainReady
  (s.setTrq s.trq.flush, .ok)

/-- A level threshold as stored: 0 as 1, and above 32 as 32 (R135). -/
def storedThreshold (t : BitVec 6) : BitVec 6 := if t = 0 then 1 else if 32 < t.toNat then 32 else t

/-- The queue after a write of its configuration byte (R135). -/
def RecordQueue.configure (data : Byte) (q : RecordQueue) : RecordQueue :=
  { q with
    threshold := storedThreshold (data.extractLsb' 0 6)
    policy := if data.getLsbD 6 then .keepNewest else .keepOldest
    autoPop := data.getLsbD 7 }

/-- A write of the queue's configuration byte (R135): offers taken before it go by the old policy. -/
def State.writeQueueConfig (data : Byte) (s : State) : State :=
  let s := s.drainReady
  s.setTrq (s.trq.configure data)

/-! ## Pending and enable registers -/

/-- A write of the pending register (R163): a raise taken before it in the same cycle is cleared with the rest (R162). -/
def State.clearPending (data : Byte) (s : State) : State :=
  let s := s.drainReady
  s.setIcu { s.icu with flags := s.icu.flags.clearBits data }

/-- A write of the enable register (R164). -/
def State.writeEnables (data : Byte) (s : State) : State :=
  s.setIcu { s.icu with enables := data.extractLsb' 0 6 }

/-! ## Timebase registers -/

/-- The trim pair after a write of one of its bytes (R10): the fourth code leaves W as it was. -/
def Trim.write (reg : TrimByte) (data : Byte) (t : Trim) : Trim :=
  match reg with
  | .signHigh => { t with
      negative := data.getLsbD 7
      magnitude := (t.magnitude &&& 0x0FF) ||| ((data.extractLsb' 0 4).setWidth 12 <<< 8) }
  | .low => { t with magnitude := (t.magnitude &&& 0xF00) ||| data.setWidth 12 }
  | .window => { t with window := (TrimWindow.ofCode (data.extractLsb' 0 2)).getD t.window }

/-- A write of a trim register; trim-change-pending is set (R10). -/
def State.writeTrim (reg : TrimByte) (data : Byte) (s : State) : State :=
  s.setTb { s.tb with written := s.tb.written.write reg data, trimPending := true }

/-- A slew rate exponent as stored: below 4 as 4, above 16 as 16 (R14). -/
def storedRate (data : Byte) : BitVec 5 := BitVec.ofNat 5 (max 4 (min 16 data.toNat))

/-- A write of the slew rate register (R14); the rate in force is not touched. -/
def State.writeRate (data : Byte) (s : State) : State :=
  s.setTb { s.tb with rate := storedRate data }

/-- The address of a trim byte in page 2 (R180). -/
def trimByteAddr : TrimByte → Addr
  | .signHigh => 0x0E
  | .low => 0x0F
  | .window => 0x10

/-! ## Page select and staging record -/

/-- A write of the page select (R173): a byte above 2 leaves it. -/
def State.writePage (data : Byte) (s : State) : State :=
  match indexOf 3 data with
  | some p => s.setSp { s.sp with page := p }
  | none => s

/-- The staging fields after a write of byte `i` (R65, R180); an action code that names none leaves the action. -/
def Staging.write (i : Nat) (data : Byte) (g : Staging) : Staging :=
  match i with
  | 0 => { g with
      periodic := data.getLsbD 0
      drop := data.getLsbD 1
      action := (ActionCode.ofCode (data.extractLsb' 2 3)).getD g.action
      notify := data.getLsbD 5
      epochBound := data.getLsbD 6 }
  | 1 => { g with
      line := data.extractLsb' 0 6
      limitPresent := data.getLsbD 6
      linkPresent := data.getLsbD 7 }
  | 2 => { g with link := data }
  | i =>
    if i < 10 then { g with due := withByte 7 (i - 3) data g.due }
    else if i < 13 then { g with width := withByte 3 (i - 10) data g.width }
    else if i < 18 then { g with period := withByte 5 (i - 13) data g.period }
    else if i < 20 then { g with limit := withByte 2 (i - 18) data g.limit }
    else if i < 25 then { g with linkOffset := withByte 5 (i - 20) data g.linkOffset }
    else g

/-- The staged time after a write of byte `i` of the staging record: the sign stands in byte 0, the value in the last
seven (R9, R180). -/
def StagedTime.write (i : Nat) (data : Byte) (t : StagedTime) : StagedTime :=
  if i = 0 then { t with negative := data.getLsbD 7 }
  else if i < 25 then t
  else { t with value := withByte 7 (i - 25) data t.value }

/-- A write of byte `i` of the staging record (R9, R65). -/
def State.writeStaging (i : Nat) (data : Byte) (s : State) : State :=
  (s.setSched { s.sched with staging := s.sched.staging.write i data }).setTb
    { s.tb with staged := s.tb.staged.write i data }

/-! ## The rows -/

/-- Q_POP, strobe 0x79 (R139). -/
def execQPop (_arg : Byte) (s : State) : Host.Outcome State Fault Refusal :=
  .next (s.command 0x79 State.qPop)

/-- Q_FLUSH, strobe 0x7A (R143). -/
def execQFlush (_arg : Byte) (s : State) : Host.Outcome State Fault Refusal :=
  .next (s.command 0x7A State.qFlush)

/-- TRIM_WRITE (R10). -/
def execTrimWrite (reg : TrimByte) (data : Byte) (s : State) : Host.Outcome State Fault Refusal :=
  .next (s.writePaged 2 (trimByteAddr reg) (State.writeTrim reg data))

/-- SLEW_RATE_WRITE (R14): 0x11 of page 2. -/
def execSlewRateWrite (data : Byte) (s : State) : Host.Outcome State Fault Refusal :=
  .next (s.writePaged 2 0x11 (State.writeRate data))

/-- QUEUE_CONFIG_WRITE (R135): 0x12 of page 2. -/
def execQueueConfigWrite (data : Byte) (s : State) : Host.Outcome State Fault Refusal :=
  .next (s.writePaged 2 0x12 (State.writeQueueConfig data))

/-- PENDING_CLEAR (R163): 0x7E. -/
def execPendingClear (data : Byte) (s : State) : Host.Outcome State Fault Refusal :=
  .next (s.writeAt 0x7E (State.clearPending data))

/-- ENABLE_WRITE (R164): 0x7F. -/
def execEnableWrite (data : Byte) (s : State) : Host.Outcome State Fault Refusal :=
  .next (s.writeAt 0x7F (State.writeEnables data))

/-- PAGE_SELECT_WRITE (R173): 0x7D. -/
def execPageSelectWrite (data : Byte) (s : State) : Host.Outcome State Fault Refusal :=
  .next (s.writeAt 0x7D (State.writePage data))

end Sys2Proof.Machine
end

