-- ==== Sys2Proof/Machine/Capture.lean ====
section
/-! DEFINITION. The capture unit's rows: CAPTURE_SAMPLE and the writes of a line's configuration (chapter 3). -/

namespace Sys2Proof.Machine

/-- The line after a write of its control byte, which holds enable, d and q (R53, R54, R55, R175): an enable starts the
line, a disable stops it, and a write to an enabled line that stays enabled restarts its sampling. -/
def CapLine.writeControl (on : Bool) (d q : BitVec 3) (l : CapLine) : CapLine :=
  let l' := { l with enabled := on, divisor := d, qualMinus1 := q }
  match l.enabled, on with
  | false, false => l'
  | true, true => { l' with run := none, interval := 0, due := false }
  | _, _ => { l' with level := none, run := none, interval := 0, due := false }

/-- The edge-aligned load is cancelled where its awaited line is disabled (R41): the target is discarded and TBEVT set. -/
def State.cancelIfDisabled (s : State) : State :=
  match s.tb.state with
  | .awaitEdge w =>
    if (s.cap.get w.line).enabled then s else (s.setTbState w.cancelled).raise .tbevt
  | _ => s

/-- A write of the control byte of line `n`. -/
def State.writeCapControl (n : Fin 6) (on : Bool) (d q : BitVec 3) (s : State) : State :=
  (s.setCap (s.cap.modify n (CapLine.writeControl on d q))).cancelIfDisabled

/-- The line after a write of one of its other configuration bytes (R43, R56): the interval count, the run and the
qualified level stay. -/
def CapLine.writeConfig (reg : CapByte) (data : Byte) (l : CapLine) : CapLine :=
  match reg with
  | .edgesLog =>
    { l with edges := (EdgeSet.ofCode (data.extractLsb' 0 2)).getD l.edges, log := data.getLsbD 2 }
  | .target => { l with targetNone := data.getLsbD 7, target := data.extractLsb' 0 5 }
  | .offsetSeconds => { l with offset := withByte 4 0 data l.offset }
  | .offsetHigh => { l with offset := withByte 4 1 data l.offset }
  | .offsetMid => { l with offset := withByte 4 2 data l.offset }
  | .offsetLow => { l with offset := withByte 4 3 data l.offset }

/-- A write of another configuration byte of line `n`. -/
def State.writeCapConfig (n : Fin 6) (reg : CapByte) (data : Byte) (s : State) : State :=
  s.setCap (s.cap.modify n (CapLine.writeConfig reg data))

/-- The place of a configuration byte in its line's seven (R180). -/
def capBytePlace : CapByte → Nat
  | .edgesLog => 1
  | .target => 2
  | .offsetSeconds => 3
  | .offsetHigh => 4
  | .offsetMid => 5
  | .offsetLow => 6

/-- The address of byte `i` of line `n` in page 1 (R180). -/
def capAddr (n : Fin 6) (i : Nat) : Addr := BitVec.ofNat 7 (0x08 + 7 * n.val + i)

/-- CAPTURE_SAMPLE (R46). -/
def execCaptureSample (n : Fin 6) (s : State) : Host.Outcome State Fault Refusal :=
  .next (s.takeCapture n)

/-- CAPTURE_ENABLE (R53): the control byte written with enable on. -/
def execCaptureEnable (n : Fin 6) (d q : BitVec 3) (s : State) : Host.Outcome State Fault Refusal :=
  .next (s.writePaged 1 (capAddr n 0) (State.writeCapControl n true d q))

/-- CAPTURE_DISABLE (R54): the control byte written with enable off. -/
def execCaptureDisable (n : Fin 6) (d q : BitVec 3) (s : State) : Host.Outcome State Fault Refusal :=
  .next (s.writePaged 1 (capAddr n 0) (State.writeCapControl n false d q))

/-- SAMPLING_RESTART (R55): the control byte written with the enable as it stands. -/
def execSamplingRestart (n : Fin 6) (d q : BitVec 3) (s : State) : Host.Outcome State Fault Refusal :=
  .next (s.writePaged 1 (capAddr n 0) (State.writeCapControl n (s.cap.get n).enabled d q))

/-- CAPTURE_CONFIG_WRITE (R56). -/
def execCaptureConfigWrite (n : Fin 6) (reg : CapByte) (data : Byte) (s : State) :
    Host.Outcome State Fault Refusal :=
  .next (s.writePaged 1 (capAddr n (capBytePlace reg)) (State.writeCapConfig n reg data))

end Sys2Proof.Machine
end

