-- ==== Sys2Proof/Machine/Schedule.lean ====
section
/-! DEFINITION. The schedule table's and the dispatcher's commands, and the dispatch (chapters 4 and 5). -/

namespace Sys2Proof.Machine

/-! ## Checking and copying the staging record -/

/-- The action the staging record gives, with the line and the width it needs (R66); none where a check of them fails
(R69). -/
def Staging.deed (g : Staging) : Option Deed :=
  match g.action with
  | .none => some .none
  | .set => (indexOf 8 (g.line.setWidth 8)).map .set
  | .clear => (indexOf 8 (g.line.setWidth 8)).map .clear
  | .toggle => (indexOf 8 (g.line.setWidth 8)).map .toggle
  | .pulse => if g.width = 0 then none else (indexOf 8 (g.line.setWidth 8)).map fun n => .pulse n g.width

/-- The kind the staging record gives, with the period and the limit it needs (R66); none where a check of them fails
(R69). -/
def Staging.cadence (g : Staging) : Option Cadence :=
  if g.periodic then
    if g.period.toNat < 256 then none
    else if g.limitPresent then if g.limit = 0 then none else some (.periodic g.period (some g.limit))
    else some (.periodic g.period none)
  else some .once

/-- The link the staging record gives for entry `n` (R66); none where a check of it fails (R69). -/
def Staging.linkFor (n : Fin 32) (g : Staging) : Option (Option Link) :=
  if g.linkPresent then
    match indexOf 32 g.link with
    | none => none
    | some m => if m = n then none else some (some { entry := m, offset := g.linkOffset })
  else some none

/-- The host-given fields copied from the staging record for entry `n`; none where the record fails a check (R66, R69). -/
def Staging.plan (n : Fin 32) (g : Staging) : Option Plan :=
  match g.deed, g.cadence, g.linkFor n with
  | some deed, some cadence, some link =>
    some { cadence := cadence, due := g.due, deed := deed, late := if g.drop then .drop else .fireLate,
           link := link, notify := g.notify, epochBound := g.epochBound }
  | _, _, _ => none

/-- An entry that may be armed, parked or overwritten: FREE or DONE (R68). -/
def Entry.idle : Entry → Bool
  | .free => true
  | .done _ _ _ => true
  | _ => false

/-- The checks of SCH_ARM and SCH_PARK, in their order (R68); `put` makes the entry from the copied fields. -/
def State.compose (arg : Byte) (put : Plan → Entry) (s : State) : State × ResultCode :=
  match indexOf 32 arg with
  | none => (s, .badIndex)
  | some n =>
    if !(s.entry n).idle then (s, .badState)
    else
      match s.sched.staging.plan n with
      | none => (s, .badField)
      | some p => ((s.setEntry n (put p)).noteArming n, .ok)

/-- The epoch that SCH_ARM gives an entry: the one in force, but the old one where the notice of a step of this cycle has not
been taken, for then the command comes before it (R73). -/
def State.armingEpoch (s : State) : Epoch :=
  match s.cyc.notices with
  | [] => s.tb.epoch
  | n :: _ => n.epoch - 1

/-- SCH_ARM (R70): the entry is ARMED, and is examined at its arming against the time of the cycle (R93). Where the notice of a
step of the cycle comes after it, that notice makes an epoch-bound entry DONE STALE (R73). -/
def State.schArm (arg : Byte) (s : State) : State × ResultCode :=
  s.compose arg fun p => Entry.treat s.presented.time (.armed p (Kept.start p (some s.armingEpoch)) false)

/-- SCH_PARK (R71). -/
def State.schPark (arg : Byte) (s : State) : State × ResultCode :=
  s.compose arg fun p => .parked p (Kept.start p none)

/-! ## Cancelling, freeing, viewing -/

/-- The decision of this cycle is spent where `b` says that the entry it would dispatch is cancelled: no other entry is
dispatched in the cycle on account of it (R76). DEDUCED (log entry 30): R84 and R86 alone would dispatch the next head. -/
def State.spendDecision (b : Bool) (s : State) : State :=
  if b then s.setCyc { s.cyc with decided := true } else s

/-- SCH_CANCEL (R74, R76). -/
def State.schCancel (arg : Byte) (s : State) : State × ResultCode :=
  match indexOf 32 arg with
  | none => (s, .badIndex)
  | some n =>
    if (s.entry n).idle then (s, .badState)
    else ((s.spendDecision (s.dispatchable == some n)).setEntry n ((s.entry n).finish .cancelled), .ok)

/-- SCH_CANCEL_ALL (R75, R76). -/
def State.schCancelAll (s : State) : State × ResultCode :=
  ((s.spendDecision s.dispatchable.isSome).mapEntries (Entry.finish .cancelled), .ok)

/-- SCH_FREE (R78). -/
def State.schFree (arg : Byte) (s : State) : State × ResultCode :=
  match indexOf 32 arg with
  | none => (s, .badIndex)
  | some n =>
    match s.entry n with
    | .done _ _ _ => (s.setEntry n .free, .ok)
    | _ => (s, .badState)

/-- SCH_VIEW (R79). -/
def State.schView (arg : Byte) (s : State) : State × ResultCode :=
  match indexOf 32 arg with
  | none => (s, .badIndex)
  | some n => (s.setSched { s.sched with view := { index := n, entry := s.entry n } }, .ok)

/-! ## The hold set -/

/-- SCH_HOLD (R104). -/
def State.schHold (s : State) : State × ResultCode := (s.setDisp { s.disp with holdHost := true }, .ok)

/-- The one sweep of the moment at which the hold set has become empty, against the time of the cycle (R95, R105, R106). Where a
notice with the sweep indication is still to come in this cycle, it is taken now and makes that sweep, after its STALE
passage and its clearing of late marks (R107). -/
def State.sweepFree (s : State) : State :=
  match s.edgeLoadDue with
  | some w => s.takeCapture w.line
  | none => if s.cyc.notices.any Notice.sweep then s.takeNotices else s.sweep s.presented.time

/-- The sweep where the hold set has become empty; else there is none (R105, R106). -/
def State.sweepIfFree (s : State) : State := if s.disp.free then s.sweepFree else s

/-- SCH_RESUME (R105, R107). -/
def State.schResume (s : State) : State × ResultCode :=
  if s.disp.holdHost then
    ((s.setDisp { s.disp with holdHost := false }).sweepIfFree, .ok)
  else (s, .badState)

/-- DISPATCH (R86, R87): the dispatch decision of this cycle. -/
def execDispatch (order : ActionOrder) (s : State) : Host.Outcome State Fault Refusal :=
  .next (s.takeDispatch order)

/-- SCH_ARM, strobe 0x6F. -/
def execSchArm (arg : Byte) (s : State) : Host.Outcome State Fault Refusal :=
  .next (s.command 0x6F (State.schArm arg))

/-- SCH_PARK, strobe 0x70. -/
def execSchPark (arg : Byte) (s : State) : Host.Outcome State Fault Refusal :=
  .next (s.command 0x70 (State.schPark arg))

/-- SCH_CANCEL, strobe 0x71. -/
def execSchCancel (arg : Byte) (s : State) : Host.Outcome State Fault Refusal :=
  .next (s.command 0x71 (State.schCancel arg))

/-- SCH_CANCEL_ALL, strobe 0x72. -/
def execSchCancelAll (_arg : Byte) (s : State) : Host.Outcome State Fault Refusal :=
  .next (s.command 0x72 State.schCancelAll)

/-- SCH_FREE, strobe 0x73. -/
def execSchFree (arg : Byte) (s : State) : Host.Outcome State Fault Refusal :=
  .next (s.command 0x73 (State.schFree arg))

/-- SCH_VIEW, strobe 0x74. -/
def execSchView (arg : Byte) (s : State) : Host.Outcome State Fault Refusal :=
  .next (s.command 0x74 (State.schView arg))

/-- SCH_HOLD, strobe 0x75. -/
def execSchHold (_arg : Byte) (s : State) : Host.Outcome State Fault Refusal :=
  .next (s.command 0x75 State.schHold)

/-- SCH_RESUME, strobe 0x76. -/
def execSchResume (_arg : Byte) (s : State) : Host.Outcome State Fault Refusal :=
  .next (s.command 0x76 State.schResume)

end Sys2Proof.Machine
end

