-- ==== Sys2Proof/Machine/Guards.lean ====
section
/-! DEFINITION. The guard unit's rows: GUARD_SAMPLE, the writes of its configuration and of the safe-level table, and
GRD_RELEASE (chapter 8). -/

namespace Sys2Proof.Machine

/-- A run abandoned: the line returns to the state the run set out from (R151). -/
def GuardState.abandon : GuardState → GuardState
  | .toActive _ => .inactive
  | .toInactive _ => .active
  | g => g

/-- A qualification of 0 is stored as 1 (R147). -/
def storedQual (q : BitVec 4) : BitVec 4 := if q = 0 then 1 else q

/-- The line after a write of its configuration byte, which holds enable, active level and n (R150, R151, R175). A sample of
this cycle that is still to be taken stays, judged as before the write, where the line stays enabled; a line that is turned
on takes its first sample at the next guard sample cycle. -/
def GuardLine.write (on : Bool) (active : Level) (q : BitVec 4) (l : GuardLine) : GuardLine where
  enabled := on
  activeLevel := active
  qual := storedQual q
  state := if l.enabled && on then l.state.abandon else .inactive
  due := if l.enabled && on then l.due else none

/-- A write of the configuration byte of guard line `n`; the trip state and the hold set are not reached (R150). -/
def State.writeGuardLine (n : Fin 2) (on : Bool) (active : Level) (q : BitVec 4) (s : State) : State :=
  s.setGuard { s.guard with lines := s.guard.lines.modify n (GuardLine.write on active q) }

/-- The address of a guard line's configuration byte in page 2 (R180). -/
def guardAddr (n : Fin 2) : Addr := if n = 0 then 0x0A else 0x0B

/-- The safe-level table after a write of one of its two bytes (R154): code 3 leaves an entry as it was. -/
def writeSafe (half : Fin 2) (data : Byte) (safe : Bank SafeLevel 8) : Bank SafeLevel 8 :=
  .ofFn fun n =>
    if n.val / 4 = half.val then
      (SafeLevel.ofCode (data.extractLsb' (2 * (n.val % 4)) 2)).getD (safe.get n)
    else safe.get n

/-- A write of the safe-level table; it is ignored while the unit is tripped (R154). -/
def State.writeSafeLevels (half : Fin 2) (data : Byte) (s : State) : State :=
  if s.guard.tripped then s else s.setGuard { s.guard with safe := writeSafe half data s.guard.safe }

/-- A guard line that does not block the release: disabled or INACTIVE (R155). -/
def GuardLine.quiet (l : GuardLine) : Bool := !l.enabled || l.state == .inactive

/-- GRD_RELEASE (R155): the unit becomes untripped, GUARD leaves the hold set, and the sweep follows where the set has
become empty (R106, R107). -/
def State.grdRelease (s : State) : State × ResultCode :=
  if !s.guard.tripped then (s, .badState)
  else if !s.guard.lines.all GuardLine.quiet then (s, .guardActive)
  else
    (((s.setGuard { s.guard with tripped := false }).setDisp { s.disp with holdGuard := false }).sweepIfFree, .ok)

/-- GUARD_SAMPLE (R149). -/
def execGuardSample (s : State) : Host.Outcome State Fault Refusal :=
  .next s.takeGuard

/-- GUARD_ENABLE (R150): the configuration byte written with enable on. -/
def execGuardEnable (n : Fin 2) (active : Level) (q : BitVec 4) (s : State) : Host.Outcome State Fault Refusal :=
  .next (s.writePaged 2 (guardAddr n) (State.writeGuardLine n true active q))

/-- GUARD_DISABLE (R150): the configuration byte written with enable off. -/
def execGuardDisable (n : Fin 2) (active : Level) (q : BitVec 4) (s : State) : Host.Outcome State Fault Refusal :=
  .next (s.writePaged 2 (guardAddr n) (State.writeGuardLine n false active q))

/-- GUARD_RECONFIG (R151): the configuration byte written with the enable as it stands. -/
def execGuardReconfig (n : Fin 2) (active : Level) (q : BitVec 4) (s : State) : Host.Outcome State Fault Refusal :=
  .next (s.writePaged 2 (guardAddr n) (State.writeGuardLine n (s.guard.lines.get n).enabled active q))

/-- SAFE_LEVEL_WRITE (R154): 0x0C or 0x0D of page 2. -/
def execSafeLevelWrite (half : Fin 2) (data : Byte) (s : State) : Host.Outcome State Fault Refusal :=
  .next (s.writePaged 2 (if half = 0 then 0x0C else 0x0D) (State.writeSafeLevels half data))

/-- GRD_RELEASE, strobe 0x7B (R155). -/
def execGrdRelease (_arg : Byte) (s : State) : Host.Outcome State Fault Refusal :=
  .next (s.command 0x7B State.grdRelease)

end Sys2Proof.Machine
end

