-- ==== Sys2Proof/Machine/Resets.lean ====
section
/-! DEFINITION. The three resets: SOFT_RESET, POWER_ON_RESET, PIN_RESET and its release (R167 and the reset rules of each
chapter). -/

namespace Sys2Proof.Machine

/-- An output line at a soft reset (R126): the pulse is cancelled, and the level goes to idle unless the guard unit is
tripped. -/
def OutLine.softReset (tripped : Bool) (l : OutLine) : OutLine :=
  { l with level := if tripped then l.level else l.idle, pulse := none }

/-- The offers of the cycle that wait at the port, before a soft reset: the port takes those that no offer still to come can
precede, or they wait and are stored in the emptied queue (R146). -/
def State.offersBeforeReset (order : ResetOrder) (s : State) : State :=
  match order with
  | .offersFirst => s.drainReady
  | .resetFirst => s

/-- SOFT_RESET (R167): the schedule table (R83), the dispatcher (R111), the output unit (R126), the queue (R146) and the
latched flags (R168); timebase, capture unit, guard unit and port are left (R21, R60, R160, R179). An action of a dispatch
taken before it reaches the output unit before it (R126). -/
def State.softReset (order : ResetOrder) (s : State) : State × ResultCode :=
  let s := (s.offersBeforeReset order).deliverAction
  let s := s.setSched
    { s.sched with entries := .fill 32 .free, view := { index := 0, entry := .free } }
  let s := s.setDisp { s.disp with holdHost := false, fault := .none }
  let s := (s.setOuts (s.outs.map (OutLine.softReset s.guard.tripped))).setTrq s.trq.flush
  (s.setIcu { s.icu with flags := .clear }, .ok)

/-- The timebase at a pin reset (R20): it carries on, but for a pending edge-aligned load, which is cancelled because every
capture line is disabled; TBEVT is then owed until RESET_N rises. -/
def Timebase.pinReset (tb : Timebase) : Timebase :=
  match tb.state with
  | .awaitEdge w => { tb with state := w.cancelled, cancelOwed := true }
  | _ => tb

/-- An output line at a pin reset (R125). -/
def OutLine.pinReset (tripped : Bool) (safe : SafeLevel) (l : OutLine) : OutLine where
  mode := .off
  idle := .low
  level := if tripped then safe.apply l.level else .low
  pulse := none

/-- The transaction at a pin reset: an open one is abandoned, with a partial byte, and CS_N, which has stayed low, is ignored until it rises
(R178). -/
def Transaction.pinReset : Transaction → Transaction
  | .idle => .idle
  | .addressing => .ignored
  | .reading _ _ => .ignored
  | .writing _ => .ignored
  | .ignored => .ignored

/-- RESET_N goes low (R20, R59, R82, R110, R125, R145, R159, R169, R178). What an earlier event of the same cycle still has
under way comes first (log entry 25). -/
def State.pinReset (s : State) : State :=
  let s := s.drainReady.deliverAction
  let s := (s.setTb s.tb.pinReset).setCap (.fill 6 .reset)
  let s := (s.setSched .reset).setDisp { s.disp with holdHost := false, fault := .none }
  let s := s.setOuts (.ofFn fun n => (s.outs.get n).pinReset s.guard.tripped (s.guard.safe.get n))
  let s := (s.setTrq .reset).setIcu .reset
  (s.setSp { SerialPort.reset with tx := s.sp.tx.pinReset }).setResetLow true

/-- The offers made in this cycle while RESET_N was low are taken while it is low, so that a loss among them leaves no QLOSS
(R169); the guard samples of the cycle, whose records the port takes before them (R131), come first (log entry 25). -/
def State.drainInReset (s : State) : State := if s.cyc.offers.isEmpty then s else s.takeGuard.drainAll

/-- RESET_N rises (R169): the ICU leaves its reset and takes TBEVT for an edge-aligned load that the reset cancelled (R20)
and GTRIP where the guard unit is tripped (R159). -/
def State.pinResetRelease (s : State) : State :=
  let s := s.drainInReset
  let s := ((s.setResetLow false).raiseIf s.tb.cancelOwed .tbevt).raiseIf s.guard.tripped .gtrip
  s.setTb { s.tb with cancelOwed := false }

/-- SOFT_RESET, strobe 0x7C (R167). -/
def execSoftReset (c : SoftResetOperands) (s : State) : Host.Outcome State Fault Refusal :=
  .next (s.command 0x7C (State.softReset c.order))

/-- POWER_ON_RESET (R19, R58, R81, R109, R124, R144, R158, R168, R178). The queue of waiting commands and the counter
behind the free values are the model's own and stay (log entry 21). DESIGN CHOICE (log entry 29): RESET_N is high after it, so
that a pin reset under way is over. -/
def execPowerOnReset (s : State) : Host.Outcome State Fault Refusal :=
  .next ((State.reset.setPending s.pending).setFresh s.fresh)

/-- PIN_RESET (R20). Where RESET_N is low already, it does not go low, and nothing changes (log entry 4). -/
def execPinReset (s : State) : Host.Outcome State Fault Refusal :=
  .next (if s.resetLow then s else s.pinReset)

/-- PIN_RESET_RELEASE (R169). Where RESET_N is high already, nothing changes (log entry 4). -/
def execPinResetRelease (s : State) : Host.Outcome State Fault Refusal :=
  .next (if s.resetLow then s.pinResetRelease else s)

end Sys2Proof.Machine
end

