-- ==== Sys2Proof/Machine/Port.lean ====
section
/-! DEFINITION. The serial port: data bytes by address, transactions, and the two latches (chapter 10). -/

namespace Sys2Proof.Machine

/-! ## Data bytes by address -/

/-- A byte written to the configuration of four output lines (R113, R180): mode and idle level of each. -/
def State.writeOutConfig (half : Fin 2) (data : Byte) (s : State) : State :=
  s.setOuts (.ofFn fun n =>
    if n.val / 4 = half.val then
      { s.outs.get n with
        mode := if data.getLsbD (2 * (n.val % 4)) then .driven else .off
        idle := Level.ofBool (data.getLsbD (2 * (n.val % 4) + 1)) }
    else s.outs.get n)

/-- A byte written to a guard line's configuration (R147, R180). -/
def State.writeGuardByte (n : Fin 2) (data : Byte) (s : State) : State :=
  s.writeGuardLine n (data.getLsbD 0) (Level.ofBool (data.getLsbD 1)) (data.extractLsb' 4 4)

/-- A byte written in page 1 (R180). -/
def State.writePage1 (a : Nat) (data : Byte) (s : State) : State :=
  if h : (a - 8) / 7 < 6 then
    let n : Fin 6 := ⟨(a - 8) / 7, h⟩
    match (a - 8) % 7 with
    | 0 => s.writeCapControl n (data.getLsbD 0) (data.extractLsb' 1 3) (data.extractLsb' 4 3)
    | 1 => s.writeCapConfig n .edgesLog data
    | 2 => s.writeCapConfig n .target data
    | 3 => s.writeCapConfig n .offsetSeconds data
    | 4 => s.writeCapConfig n .offsetHigh data
    | 5 => s.writeCapConfig n .offsetMid data
    | _ => s.writeCapConfig n .offsetLow data
  else s

/-- A byte written in page 2 (R180): status, identity and unused addresses ignore it (R175). -/
def State.writePage2 (a : Nat) (data : Byte) (s : State) : State :=
  match a with
  | 0x08 => s.writeOutConfig 0 data
  | 0x09 => s.writeOutConfig 1 data
  | 0x0A => s.writeGuardByte 0 data
  | 0x0B => s.writeGuardByte 1 data
  | 0x0C => s.writeSafeLevels 0 data
  | 0x0D => s.writeSafeLevels 1 data
  | 0x0E => s.writeTrim .signHigh data
  | 0x0F => s.writeTrim .low data
  | 0x10 => s.writeTrim .window data
  | 0x11 => s.writeRate data
  | 0x12 => s.writeQueueConfig data
  | _ => s

/-- A byte written to a strobe address issues its command with the byte as argument (R174, R180). The notice of a load or
a jump so issued comes first, and so do the offers before a soft reset (log entry 6). -/
def State.strobe (a : Nat) (arg : Byte) (s : State) : State :=
  match a with
  | 0x68 => s.command 0x68 State.tbStart
  | 0x69 => s.command 0x69 State.tbStop
  | 0x6A => s.command 0x6A (State.tbLoad .noticeFirst)
  | 0x6B => s.command 0x6B (State.tbJump .noticeFirst)
  | 0x6C => s.command 0x6C State.tbSlew
  | 0x6D => s.command 0x6D (State.tbLoadEdge arg)
  | 0x6E => s.command 0x6E State.tbCancelEdge
  | 0x6F => s.command 0x6F (State.schArm arg)
  | 0x70 => s.command 0x70 (State.schPark arg)
  | 0x71 => s.command 0x71 (State.schCancel arg)
  | 0x72 => s.command 0x72 State.schCancelAll
  | 0x73 => s.command 0x73 (State.schFree arg)
  | 0x74 => s.command 0x74 (State.schView arg)
  | 0x75 => s.command 0x75 State.schHold
  | 0x76 => s.command 0x76 State.schResume
  | 0x77 => s.command 0x77 (State.force .high arg)
  | 0x78 => s.command 0x78 (State.force .low arg)
  | 0x79 => s.command 0x79 State.qPop
  | 0x7A => s.command 0x7A State.qFlush
  | 0x7B => s.command 0x7B State.grdRelease
  | _ => s.command 0x7C (State.softReset .offersFirst)

/-- A data byte handed to the block that owns its address (R171, R173, R174, R175): read-only and unmapped addresses ignore
it. -/
def State.deliverByte (addr : Addr) (data : Byte) (s : State) : State :=
  let a := addr.toNat
  if a < 0x08 then s
  else if a < 0x38 then
    (match s.sp.page with
      | 0 => s
      | 1 => s.writePage1 a data
      | _ => s.writePage2 a data)
  else if a < 0x48 then s
  else if a < 0x68 then s.writeStaging (a - 0x48) data
  else if a < 0x7D then s.strobe a data
  else if a = 0x7D then s.writePage data
  else if a = 0x7E then s.clearPending data
  else s.writeEnables data

/-- A write data byte at an address (R171). -/
def State.writeByte (addr : Addr) (data : Byte) (s : State) : State :=
  s.writeAt addr (State.deliverByte addr data)

/-! ## Transactions -/

/-- The source of a read's bytes once a byte at `addr` has been read in whole (R141, R177). -/
def Source.noteRead (addr : Addr) (src : Source) : Source :=
  match src with
  | .head copy lastRead => .head copy (lastRead || addr == 0x47)
  | src => src

/-- A read data byte shifted out in whole (R171, R172): the pointer steps, and the next byte is to be fetched at the end of
this cycle. Outside a read transaction, and while RESET_N is low, there is no such byte. -/
def State.readByte (s : State) : State :=
  if s.resetLow then s else
  let s := s.fetch
  match s.sp.tx with
  | .reading pointer src =>
    s.setSp { s.sp with
      tx := .reading (nextAddr s.sp.page pointer) (src.noteRead pointer)
      read := s.sp.shift
      fetchDue := true }
  | _ => s

/-- A read transaction opens at an address, with a source for its bytes (R170, R171). -/
def State.openRead (addr : Addr) (src : Source) (s : State) : State :=
  s.setSp { s.sp with tx := .reading addr src, fetchDue := true }

/-- The time snapshot (R176): time value, epoch and TB status as this cycle presents them. -/
def State.takeSnapshot (s : State) : State :=
  let tb := s.presented
  s.setSp { s.sp with snapshot := { time := tb.time, epoch := tb.epoch, status := tb.status } }

/-- A read transaction opens (R170, R176, R177): in the time window it makes a snapshot, in the head window a head latch,
and the offers taken before it in the cycle come before the latch (R138). -/
def State.startRead (addr : Addr) (s : State) : State :=
  if addr.toNat < 0x08 then s.takeSnapshot.openRead addr .snapshot
  else if 0x38 ≤ addr.toNat ∧ addr.toNat < 0x48 then
    let s := s.drainReady
    s.openRead addr (.head s.trq.records.head? false)
  else s.openRead addr .live

/-- The address byte opens a transaction (R170): a read where its first bit is 1, else a write. -/
def State.openTransaction (b : Byte) (s : State) : State :=
  if b.getLsbD 7 then s.startRead (b.setWidth 7) else s.setSp { s.sp with tx := .writing (b.setWidth 7) }

/-- The first byte of a transaction (R170). While a transaction is open, a CS_N high too short to be seen makes the byte a
data byte of it (R170, log entry 17); while CS_N is ignored after a pin reset, or RESET_N is low, the byte is not taken
(R178, log entry 18). -/
def State.addressByte (b : Byte) (s : State) : State :=
  if s.resetLow then s.setSp { s.sp with tx := .ignored }
  else
    match s.sp.tx with
    | .idle => s.openTransaction b
    | .addressing => s.openTransaction b
    | .writing pointer => s.writeByte pointer b
    | .reading _ _ => s.readByte
    | .ignored => s

/-- The auto-pop at the end of a read of the head window (R141): the head is removed where its number is the latched
one. -/
def State.autoPop (copy : Option Record) (lastRead : Bool) (s : State) : State :=
  match copy, s.trq.records with
  | some r, h :: _ => if s.trq.autoPop && lastRead && r.seq == h.seq then s.setTrq s.trq.pop else s
  | _, _ => s

/-- CS_N rises (R170, R177): the end of a read of the head window is handed to the queue, after the offers taken before it
in the cycle (R142), and the transaction is over. -/
def State.endTransaction (s : State) : State :=
  let s := match s.sp.tx with
    | .reading _ (.head copy lastRead) => s.drainReady.autoPop copy lastRead
    | _ => s
  s.setSp { s.sp with tx := .idle, fetchDue := false }

/-- REGISTER_WRITE (R175): a data byte at any address. -/
def execRegisterWrite (addr : Addr) (data : Byte) (s : State) : Host.Outcome State Fault Refusal :=
  .next (s.writeByte addr data)

/-- ADDRESS_BYTE (R170). -/
def execAddressByte (b : Byte) (s : State) : Host.Outcome State Fault Refusal :=
  .next (s.addressByte b)

/-- TIME_SNAPSHOT (R176): the address byte of a read that begins in the time window. -/
def execTimeSnapshot (offset : BitVec 3) (s : State) : Host.Outcome State Fault Refusal :=
  .next (s.addressByte (0x80 ||| offset.setWidth 8))

/-- HEAD_LATCH (R138): the address byte of a read that begins in the head window. -/
def execHeadLatch (offset : BitVec 4) (s : State) : Host.Outcome State Fault Refusal :=
  .next (s.addressByte (0xB8 + offset.setWidth 8))

/-- READ_DATA_BYTE (R171). -/
def execReadDataByte (s : State) : Host.Outcome State Fault Refusal :=
  .next s.readByte

/-- TRANSACTION_END (R170). -/
def execTransactionEnd (s : State) : Host.Outcome State Fault Refusal :=
  .next s.endTransaction

end Sys2Proof.Machine
end

