-- ==== Sys2Proof/Machine/Dispatch.lean ====
section
/-! DEFINITION. One arm per row of the table: each is one call of the row's meaning. -/

namespace Sys2Proof.Machine

def exec (i : Instr) (s : State) : Host.Outcome State Fault Refusal :=
  match i with
  | .countingCycle operands => Sys2Proof.Machine.execCountingCycle operands s
  | .frozenCycle pins => Sys2Proof.Machine.execFrozenCycle pins s
  | .trimWindowEnd => Sys2Proof.Machine.execTrimWindowEnd s
  | .slewModification operands => Sys2Proof.Machine.execSlewModification operands s
  | .deferredSlewModification operands => Sys2Proof.Machine.execDeferredSlewModification operands s
  | .wrap => Sys2Proof.Machine.execWrap s
  | .tbStart arg => Sys2Proof.Machine.execTbStart arg s
  | .tbStop arg => Sys2Proof.Machine.execTbStop arg s
  | .tbLoad arg order => Sys2Proof.Machine.execTbLoad arg order s
  | .tbJump arg order => Sys2Proof.Machine.execTbJump arg order s
  | .tbSlew arg => Sys2Proof.Machine.execTbSlew arg s
  | .tbLoadEdge arg => Sys2Proof.Machine.execTbLoadEdge arg s
  | .tbCancelEdge arg => Sys2Proof.Machine.execTbCancelEdge arg s
  | .captureSample line => Sys2Proof.Machine.execCaptureSample line s
  | .guardSample => Sys2Proof.Machine.execGuardSample s
  | .dispatch order => Sys2Proof.Machine.execDispatch order s
  | .pulseEnd line => Sys2Proof.Machine.execPulseEnd line s
  | .schArm arg => Sys2Proof.Machine.execSchArm arg s
  | .schPark arg => Sys2Proof.Machine.execSchPark arg s
  | .schCancel arg => Sys2Proof.Machine.execSchCancel arg s
  | .schCancelAll arg => Sys2Proof.Machine.execSchCancelAll arg s
  | .schFree arg => Sys2Proof.Machine.execSchFree arg s
  | .schView arg => Sys2Proof.Machine.execSchView arg s
  | .schHold arg => Sys2Proof.Machine.execSchHold arg s
  | .schResume arg => Sys2Proof.Machine.execSchResume arg s
  | .outSet arg => Sys2Proof.Machine.execOutSet arg s
  | .outClear arg => Sys2Proof.Machine.execOutClear arg s
  | .qPop arg => Sys2Proof.Machine.execQPop arg s
  | .qFlush arg => Sys2Proof.Machine.execQFlush arg s
  | .grdRelease arg => Sys2Proof.Machine.execGrdRelease arg s
  | .softReset operands => Sys2Proof.Machine.execSoftReset operands s
  | .captureEnable line divisor qualMinus1 => Sys2Proof.Machine.execCaptureEnable line divisor qualMinus1 s
  | .captureDisable line divisor qualMinus1 => Sys2Proof.Machine.execCaptureDisable line divisor qualMinus1 s
  | .samplingRestart line divisor qualMinus1 => Sys2Proof.Machine.execSamplingRestart line divisor qualMinus1 s
  | .captureConfigWrite line reg data => Sys2Proof.Machine.execCaptureConfigWrite line reg data s
  | .guardEnable line active qual => Sys2Proof.Machine.execGuardEnable line active qual s
  | .guardDisable line active qual => Sys2Proof.Machine.execGuardDisable line active qual s
  | .guardReconfig line active qual => Sys2Proof.Machine.execGuardReconfig line active qual s
  | .trimWrite reg data => Sys2Proof.Machine.execTrimWrite reg data s
  | .slewRateWrite data => Sys2Proof.Machine.execSlewRateWrite data s
  | .safeLevelWrite half data => Sys2Proof.Machine.execSafeLevelWrite half data s
  | .modeWrite line mode => Sys2Proof.Machine.execModeWrite line mode s
  | .idleLevelWrite line level => Sys2Proof.Machine.execIdleLevelWrite line level s
  | .queueConfigWrite data => Sys2Proof.Machine.execQueueConfigWrite data s
  | .pendingClear data => Sys2Proof.Machine.execPendingClear data s
  | .enableWrite data => Sys2Proof.Machine.execEnableWrite data s
  | .pageSelectWrite data => Sys2Proof.Machine.execPageSelectWrite data s
  | .registerWrite addr data => Sys2Proof.Machine.execRegisterWrite addr data s
  | .timeSnapshot offset => Sys2Proof.Machine.execTimeSnapshot offset s
  | .headLatch offset => Sys2Proof.Machine.execHeadLatch offset s
  | .transactionEnd => Sys2Proof.Machine.execTransactionEnd s
  | .powerOnReset => Sys2Proof.Machine.execPowerOnReset s
  | .pinReset => Sys2Proof.Machine.execPinReset s
  | .pinResetRelease => Sys2Proof.Machine.execPinResetRelease s
  | .addressByte byte => Sys2Proof.Machine.execAddressByte byte s
  | .readDataByte => Sys2Proof.Machine.execReadDataByte s

end Sys2Proof.Machine
end

