-- ==== Sys2Proof/Safety.lean ====
section
/-! DEFINITION. What counts as a sound state of the part, block by block, and the words the statements are put in. -/

namespace Sys2Proof.Machine

/-! ## Words for statements -/

/-- The state after a command's result has been recorded (R165): CMD_RESULT replaced, and CMDERR raised where the result is
not OK. -/
def State.answered (strobe : Byte) (code : ResultCode) (s : State) : State :=
  { s with icu := { s.icu with
      result := { strobe := strobe, code := code }
      flags := { s.icu.flags with cmderr := s.icu.flags.cmderr || code != .ok } } }

/-- The state after a data byte at an address of a page has reached its register: the pointer steps where a write transaction
points there, which it can only where that page is selected (R172, R173). -/
def State.past (page : Fin 3) (addr : Addr) (s : State) : State :=
  if s.sp.page = page then s.stepWrite addr else s

/-- The commands, taken one after another from a state, lead to another. -/
def State.Runs : List Instr → State → State → Prop
  | [], s, t => s = t
  | c :: cs, s, t => ∃ u, exec c s = .next u ∧ State.Runs cs u t

/-- The values of power-on reset that the rules state: R19, R58, R81, R109, R124, R144, R158, R168, R178. -/
abbrev State.PowerOnValues (s : State) : Prop :=
  (s.tb.state = .stopped ∧ s.tb.time = 0 ∧ s.tb.epoch = 0 ∧ s.tb.position = 0 ∧ s.tb.trimPending = false ∧
    s.tb.written = { negative := false, magnitude := 0, window := .one } ∧ s.tb.inForce = s.tb.written ∧
    s.tb.rate = 4 ∧ s.tb.staged = { negative := false, value := 0 } ∧ s.cyc.offers = [] ∧ s.cyc.notices = []) ∧
  (∀ n, let l := s.cap.get n
    l.enabled = false ∧ l.edges = .rising ∧ l.divisor = 0 ∧ l.qual = 1 ∧ l.log = false ∧ l.trigger = none ∧
    l.offset = 0 ∧ l.level = none ∧ l.run = none ∧ l.interval = 0 ∧ l.due = false) ∧
  ((∀ n, s.entry n = .free) ∧ s.sched.staging = .reset ∧ s.sched.view = { index := 0, entry := .free }) ∧
  (s.disp = { holdHost := false, holdGuard := false, fault := .none } ∧ dueCount s.sched.entries = 0 ∧
    dueHead s.sched.entries = none) ∧
  (∀ n, s.outs.get n = { mode := .off, idle := .low, level := .low, pulse := none } ∧ s.pins.outs.get n = .highZ) ∧
  (s.trq = { records := [], nextSeq := 0, policy := .keepOldest, threshold := 1, autoPop := false } ∧
    s.qlevel = false) ∧
  (s.guard.tripped = false ∧ s.guard.clock = 0 ∧ (∀ n, s.guard.safe.get n = .low) ∧
    ∀ n, s.guard.lines.get n = { enabled := false, activeLevel := .high, qual := 1, state := .inactive, due := none }) ∧
  (s.icu = { flags := .clear, enables := 0, result := { strobe := 0, code := .ok } } ∧ s.pins.irqLow = false) ∧
  (s.pins.miso = .highZ ∧ s.sp.tx = .idle ∧ s.sp.page = 0 ∧ s.sp.snapshot = { time := 0, epoch := 0, status := 0 })

/-- The checks of R69 that the staging record can fail for entry `n`, in the rule's order. -/
abbrev Staging.Fails (n : Fin 32) (g : Staging) : Prop :=
  (g.action ≠ .none ∧ 7 < g.line.toNat) ∨
  (g.action = .pulse ∧ g.width = 0) ∨
  (g.periodic = true ∧ g.period.toNat < 256) ∨
  (g.periodic = true ∧ g.limitPresent = true ∧ g.limit = 0) ∨
  (g.linkPresent = true ∧ g.link.toNat = n.val) ∨
  (g.linkPresent = true ∧ 31 < g.link.toNat)

/-- Every event of the current REFCLK cycle has been taken: nothing is left for the end of the cycle but to show the pins. -/
abbrev State.CycleDone (s : State) : Prop :=
  (∀ n, (s.cap.get n).due = false) ∧
  (∀ n, ∀ p ∈ (s.outs.get n).pulse, p.remaining ≠ 0) ∧
  s.tb.position < s.tb.inForce.window.cycles ∧ s.tb.state ≠ .slewEnding ∧
  s.cyc.wrapDue = false ∧ s.cyc.slewEndDue = none ∧ s.cyc.notices = [] ∧
  (∀ n, (s.guard.lines.get n).due = none) ∧ s.cyc.decided = true ∧ s.cyc.action = none ∧ s.cyc.offers = [] ∧
  s.sp.fetchDue = false

/-- The notice of a step of this cycle is still to be taken: one that was given, or that of a wrap whose row has not been taken,
or of the edge-aligned load whose awaited sample completes in this cycle (R24). -/
abbrev State.NoticeToCome (s : State) : Prop :=
  s.cyc.notices ≠ [] ∨ s.cyc.wrapDue = true ∨ s.tb.awaited.any s.completesEdge = true

/-- A write data byte at these addresses is ignored: the time window, the view record, the head window, the status registers,
SCH_FAULT, CMD_RESULT and the identity bytes are read-only, and unused addresses are unmapped (R175, R180). -/
abbrev ignoresWrites (page : Fin 3) (addr : Addr) : Prop :=
  addr.toNat < 0x08 ∨ (0x38 ≤ addr.toNat ∧ addr.toNat < 0x48) ∨
  (page = 0 ∧ 0x08 ≤ addr.toNat ∧ addr.toNat < 0x38) ∨
  (page = 1 ∧ 0x32 ≤ addr.toNat ∧ addr.toNat < 0x38) ∨
  (page = 2 ∧ 0x13 ≤ addr.toNat ∧ addr.toNat < 0x38)

/-! ## What the register window shows (R180) -/

/-- Bits `lo` to `lo + len − 1` of a byte, as a number. -/
def bits (lo len : Nat) (b : Byte) : Nat := b.toNat / 2 ^ lo % 2 ^ len

/-- `f` gives the `n` bytes of a quantity, its most significant byte first. -/
abbrev ShowsBytes (f : Nat → Byte) (n : Nat) {w : Nat} (x : BitVec w) : Prop :=
  ∀ i, i < n → (f i).toNat = x.toNat / 256 ^ (n - 1 - i) % 256

/-- Page 1 of the register window: the configuration of the capture lines (R43). -/
abbrev State.ShowsCapture (s : State) : Prop :=
  ∀ n : Fin 6, let l := s.cap.get n
    let at_ (i : Nat) : Byte := s.readLive (BitVec.ofNat 7 (0x08 + 7 * n.val + i))
    bits 0 1 (at_ 0) = l.enabled.toNat ∧ bits 1 3 (at_ 0) = l.divisor.toNat ∧ bits 4 3 (at_ 0) = l.qual - 1 ∧
    bits 0 2 (at_ 1) = (match l.edges with
      | .rising => 0
      | .falling => 1
      | .both => 2) ∧
    bits 2 1 (at_ 1) = l.log.toNat ∧ bits 7 1 (at_ 2) = l.targetNone.toNat ∧
    (∀ target, l.trigger = some target → bits 0 5 (at_ 2) = target.val) ∧
    ShowsBytes (fun i => at_ (3 + i)) 4 l.offset ∧ ∀ a : Addr, 0x32 ≤ a.toNat → a.toNat < 0x38 → s.readLive a = 0

/-- The configuration in page 2 (R10, R14, R112, R135, R147, R154): modes, idle levels, guard lines, safe levels, the written
trim, where a negative zero reads 0, the slew rate and the queue's configuration. -/
abbrev State.ShowsConfiguration (s : State) : Prop :=
  (∀ n : Fin 8, let at_ (a : Nat) : Byte := s.readLive (BitVec.ofNat 7 (a + n.val / 4))
    bits (2 * (n.val % 4)) 1 (at_ 0x08) = (decide ((s.outs.get n).mode = .driven)).toNat ∧
    bits (2 * (n.val % 4) + 1) 1 (at_ 0x08) = (decide ((s.outs.get n).idle = .high)).toNat ∧
    bits (2 * (n.val % 4)) 2 (at_ 0x0C) = match s.guard.safe.get n with
      | .low => 0
      | .high => 1
      | .keep => 2) ∧
  (∀ n : Fin 2, let l := s.guard.lines.get n
    let b := s.readLive (BitVec.ofNat 7 (0x0A + n.val))
    bits 0 1 b = l.enabled.toNat ∧ bits 1 1 b = (decide (l.activeLevel = .high)).toNat ∧ bits 4 4 b = l.qual.toNat) ∧
  (let t := s.tb.written;
    bits 7 1 (s.readLive 0x0E) = (t.negative && decide (t.magnitude ≠ 0)).toNat ∧
    bits 0 4 (s.readLive 0x0E) = t.magnitude.toNat / 256 ∧ (s.readLive 0x0F).toNat = t.magnitude.toNat % 256 ∧
    bits 0 2 (s.readLive 0x10) = match t.window with
      | .one => 0
      | .eight => 1
      | .sixtyFour => 2) ∧
  (s.readLive 0x11).toNat = s.tb.rate.toNat ∧
  bits 0 6 (s.readLive 0x12) = s.trq.threshold.toNat ∧
  bits 6 1 (s.readLive 0x12) = (decide (s.trq.policy = .keepNewest)).toNat ∧
  bits 7 1 (s.readLive 0x12) = s.trq.autoPop.toNat

/-- The status registers of page 2: timebase, live and of the last snapshot (R18, R176), capture lines (R57) and output lines
(R123). -/
abbrev State.ShowsLines (s : State) : Prop :=
  (let b := s.readLive 0x13;
    bits 7 1 b = s.tb.trimPending.toNat ∧
    (bits 0 2 b, bits 2 1 b, bits 3 3 b) = match s.tb.state with
      | .stopped => (0, 0, 0)
      | .running => (1, 0, 0)
      | .slewing _ => (2, 0, 0)
      | .slewEnding => (2, 0, 0)
      | .awaitEdge w => (3, w.frozen.toNat, w.line.val)) ∧
  s.readLive 0x14 = s.sp.snapshot.status ∧
  (∀ n : Fin 6, let l := s.cap.get n
    let b := s.readLive (BitVec.ofNat 7 (0x15 + n.val / 2))
    let at_ := 4 * (n.val % 2)
    bits at_ 1 b = l.enabled.toNat ∧ bits (at_ + 3) 1 b = l.run.isSome.toNat ∧
    bits (at_ + 1) 2 b = match l.level with
      | none => 0
      | some .low => 1
      | some .high => 2) ∧
  ∀ n : Fin 8, let l := s.outs.get n
    let b := s.readLive (BitVec.ofNat 7 (0x18 + n.val / 2))
    let at_ := 4 * (n.val % 2)
    bits at_ 1 b = (decide (l.mode = .driven)).toNat ∧ bits (at_ + 1) 1 b = (decide (l.idle = .high)).toNat ∧
    bits (at_ + 2) 1 b = (decide (l.level = .high)).toNat ∧ bits (at_ + 3) 1 b = l.pulse.isSome.toNat

/-- The other status registers of page 2: guard unit (R157), dispatcher (R85), queue (R137), SCH_FAULT (R108), CMD_RESULT
(R165) and the identity bytes (R180); unused addresses read 0 (R175). -/
abbrev State.ShowsStatus (s : State) : Prop :=
  (∀ n : Fin 2, let l := s.guard.lines.get n
    bits (1 + 3 * n.val) 1 (s.readLive 0x1C) = l.enabled.toNat ∧
    bits (2 + 3 * n.val) 2 (s.readLive 0x1C) = match l.state with
      | .inactive => 0
      | .toActive _ => 1
      | .active => 2
      | .toInactive _ => 3) ∧
  bits 0 1 (s.readLive 0x1C) = s.guard.tripped.toNat ∧
  bits 0 1 (s.readLive 0x1D) = s.disp.holdHost.toNat ∧ bits 1 1 (s.readLive 0x1D) = s.disp.holdGuard.toNat ∧
  bits 2 6 (s.readLive 0x1D) = ((List.finRange 32).filter fun i => (s.entry i).isArmed).length ∧
  (match dueHead s.sched.entries with
    | none => bits 7 1 (s.readLive 0x1E) = 1
    | some i => bits 7 1 (s.readLive 0x1E) = 0 ∧ bits 0 5 (s.readLive 0x1E) = i.val) ∧
  (s.trq.records.length ≤ 32 → (s.readLive 0x1F).toNat = s.trq.records.length) ∧
  ShowsBytes (fun i => s.readLive (BitVec.ofNat 7 (0x20 + i))) 2 s.trq.nextSeq ∧
  ((s.readLive 0x22).toNat, (s.readLive 0x23).toNat) = (match s.disp.fault with
    | .none => (0, 0)
    | .linkMiss i => (1, i.val)
    | .trigMiss n => (2, n.val)
    | .trigStale n => (3, n.val)) ∧
  s.readLive 0x24 = s.icu.result.strobe ∧
  (s.readLive 0x25).toNat = (match s.icu.result.code with
    | .ok => 0
    | .badIndex => 1
    | .badState => 2
    | .badField => 3
    | .tbBusy => 4
    | .tbStopped => 5
    | .guardActive => 6
    | .qEmpty => 7) ∧
  [s.readLive 0x26, s.readLive 0x27, s.readLive 0x28, s.readLive 0x29, s.readLive 0x2A] = [86, 74, 26, 10, 1] ∧
  ∀ a : Addr, 0x2B ≤ a.toNat → a.toNat < 0x38 → s.readLive a = 0

/-- The 16 bytes of a record, or of NONE (R129, R180). -/
abbrev ShowsRecord (f : Nat → Byte) : Option Record → Prop
  | none => ∀ i, i < 16 → f i = 0
  | some r =>
    ShowsBytes (fun i => f (1 + i)) 2 r.seq ∧ f 3 = r.offer.epoch ∧ ShowsBytes (fun i => f (4 + i)) 7 r.offer.time ∧
    match r.offer.body with
    | .edge n rising frozen trigger q =>
      (f 0).toNat = 1 ∧ (f 11).toNat = n.val ∧
      (f 12).toNat = (if rising then 1 else 2) + (if frozen then 4 else 0) + (match trigger with
        | .noMiss => 0
        | .miss => 8
        | .stale => 16) ∧
      ShowsBytes (fun i => f (13 + i)) 3 (BitVec.ofNat 24 q)
    | .fire i late final miss lateness =>
      (f 0).toNat = 2 ∧ (f 11).toNat = i.val ∧ (f 12).toNat = late.toNat + 2 * final.toNat + 4 * miss.toNat ∧
      ShowsBytes (fun i => f (13 + i)) 3 lateness
    | .guard n frozen =>
      (f 0).toNat = 3 ∧ (f 11).toNat = n.val ∧ (f 12).toNat = 4 * frozen.toNat ∧ f 13 = 0 ∧ f 14 = 0 ∧ f 15 = 0
    | .step source backward amount =>
      (f 0).toNat = 4 ∧ (f 12).toNat = backward.toNat ∧ ShowsBytes (fun i => f (13 + i)) 3 (BitVec.ofInt 24 amount) ∧
      (f 11).toNat = match source with
        | .load => 0
        | .jump => 1
        | .edgeLoad => 2
        | .wrap => 3
        | .slewEnd => 4
        | .slewCancel => 5

/-- The presence bits of an entry in a view (R80, R180): line, pulse width, period, limit, link, link offset, remaining and
last fire time in byte 3, armed epoch in byte 4. -/
abbrev ShowsPresence (f : Nat → Byte) (p : Plan) (k : Kept) : Prop :=
  bits 0 1 (f 3) = (decide (p.deed ≠ .none)).toNat ∧ bits 1 1 (f 3) = p.deed.width.isSome.toNat ∧
  bits 2 1 (f 3) = p.cadence.period.isSome.toNat ∧ bits 3 1 (f 3) = p.cadence.limit.isSome.toNat ∧
  bits 4 1 (f 3) = p.link.isSome.toNat ∧ bits 5 1 (f 3) = p.link.isSome.toNat ∧
  bits 6 1 (f 3) = k.remaining.isSome.toNat ∧ bits 7 1 (f 3) = k.lastFire.isSome.toNat ∧
  bits 0 1 (f 4) = k.armedEpoch.isSome.toNat

/-- The fields of an entry that is not FREE in a view (R80, R180); a field that is absent shows nothing here, since the spec
states no value for it (log entry 15). -/
abbrev ShowsFields (f : Nat → Byte) (p : Plan) (k : Kept) (late : Bool) : Prop :=
  let field {w : Nat} (at_ n : Nat) (x : BitVec w) : Prop := ShowsBytes (fun i => f (at_ + i)) n x
  (bits 0 1 (f 2) = p.cadence.period.isSome.toNat ∧ bits 1 1 (f 2) = (decide (p.late = .drop)).toNat ∧
    bits 2 1 (f 2) = p.notify.toNat ∧ bits 3 1 (f 2) = p.epochBound.toNat ∧ bits 4 1 (f 2) = late.toNat) ∧
  ShowsPresence f p k ∧
  (f 5).toNat = (match p.deed with
    | .none => 0
    | .set _ => 1
    | .clear _ => 2
    | .toggle _ => 3
    | .pulse _ _ => 4) ∧
  (∀ n, p.deed.line = some n → (f 6).toNat = n.val) ∧ (∀ l, p.link = some l → (f 7).toNat = l.entry.val) ∧
  field 8 7 p.due ∧ (∀ x, p.deed.width = some x → field 15 3 x) ∧ (∀ x, p.cadence.period = some x → field 18 5 x) ∧
  (∀ x, p.cadence.limit = some x → field 23 2 x) ∧ (∀ l, p.link = some l → field 25 5 l.offset) ∧
  (∀ x, k.remaining = some x → field 30 2 x) ∧ field 32 2 k.fires ∧ field 34 2 k.skips ∧
  (∀ x, k.lastFire = some x → field 36 7 x) ∧ (∀ x, k.armedEpoch = some x → f 43 = x) ∧
  ∀ i, 44 ≤ i → i < 48 → f i = 0

/-- The 48 bytes of a view record (R80, R180). -/
abbrev ShowsView (f : Nat → Byte) (v : View) : Prop :=
  (f 0).toNat = v.index.val ∧
  match v.entry with
  | .free => ∀ i, 1 ≤ i → i < 48 → f i = 0
  | .parked p k => (f 1).toNat = 1 ∧ ShowsFields f p k false
  | .armed p k late => (f 1).toNat = 2 ∧ ShowsFields f p k late
  | .done fate p k =>
    (f 1).toNat = 3 + 4 * (match fate with
      | .completed => 1
      | .cancelled => 2
      | .skipped => 3
      | .stale => 4) ∧ ShowsFields f p k false

/-- The staging record with the staged time (R9, R65, R180). -/
abbrev State.ShowsStaging (s : State) : Prop :=
  let g := s.sched.staging
  let at_ (i : Nat) : Byte := s.readLive (BitVec.ofNat 7 (0x48 + i))
  let field {w : Nat} (off n : Nat) (x : BitVec w) : Prop := ShowsBytes (fun i => at_ (off + i)) n x
  bits 0 1 (at_ 0) = g.periodic.toNat ∧ bits 1 1 (at_ 0) = g.drop.toNat ∧
  bits 2 3 (at_ 0) = (match g.action with
    | .none => 0
    | .set => 1
    | .clear => 2
    | .toggle => 3
    | .pulse => 4) ∧
  bits 5 1 (at_ 0) = g.notify.toNat ∧ bits 6 1 (at_ 0) = g.epochBound.toNat ∧
  bits 7 1 (at_ 0) = s.tb.staged.negative.toNat ∧
  bits 0 6 (at_ 1) = g.line.toNat ∧ bits 6 1 (at_ 1) = g.limitPresent.toNat ∧ bits 7 1 (at_ 1) = g.linkPresent.toNat ∧
  at_ 2 = g.link ∧ field 3 7 g.due ∧ field 10 3 g.width ∧ field 13 5 g.period ∧ field 18 2 g.limit ∧
  field 20 5 g.linkOffset ∧ field 25 7 s.tb.staged.value

/-- The pending register and the enables (R136, R163, R164). -/
abbrev State.ShowsInterrupts (s : State) : Prop :=
  let b := s.readLive 0x7E
  bits 0 1 b = (decide (s.trq.threshold.toNat ≤ s.trq.records.length)).toNat ∧
  bits 1 1 b = s.icu.flags.qloss.toNat ∧ bits 2 1 b = s.icu.flags.sfault.toNat ∧
  bits 3 1 b = s.icu.flags.gtrip.toNat ∧ bits 4 1 b = s.icu.flags.tbevt.toNat ∧
  bits 5 1 b = s.icu.flags.cmderr.toNat ∧ bits 0 6 (s.readLive 0x7F) = s.icu.enables.toNat

/-- What a live read shows at each address (R171, R173, R174, R180): the time window, the paged region by page, the head as it
stands, the staging record, strobes, the page select, and the interrupt registers. -/
abbrev State.WindowShows (s : State) : Prop :=
  ShowsBytes (fun i => s.readLive (BitVec.ofNat 7 i)) 7 s.tb.time ∧ s.readLive 0x07 = s.tb.epoch ∧
  (s.sp.page = 0 → ShowsView (fun i => s.readLive (BitVec.ofNat 7 (0x08 + i))) s.sched.view) ∧
  (s.sp.page = 1 → s.ShowsCapture) ∧
  (s.sp.page = 2 → s.ShowsConfiguration ∧ s.ShowsLines ∧ s.ShowsStatus) ∧
  ShowsRecord (fun i => s.readLive (BitVec.ofNat 7 (0x38 + i))) s.trq.records.head? ∧
  s.ShowsStaging ∧ (∀ a : Addr, 0x68 ≤ a.toNat → a.toNat < 0x7D → s.readLive a = 0) ∧
  (s.readLive 0x7D).toNat = s.sp.page.val ∧ s.ShowsInterrupts

/-! ## Sound blocks -/

/-- The queue holds at most 32 records and its threshold is 1 to 32 (R127, R135). -/
abbrev RecordQueue.Ok (q : RecordQueue) : Prop :=
  q.records.length ≤ 32 ∧ 1 ≤ q.threshold.toNat ∧ q.threshold.toNat ≤ 32

/-- A slew has a remainder that is not 0, lies between 0 and its starting amount and is at most 8,388,607 ticks long, and a
rate in force of 4 to 16 (R4). -/
abbrev Slew.Ok (sl : Slew) : Prop :=
  (0 < sl.remainder ∧ sl.remainder ≤ sl.start ∨ sl.remainder < 0 ∧ sl.start ≤ sl.remainder) ∧
  sl.start.natAbs ≤ 8388607 ∧ 4 ≤ sl.rate.toNat ∧ sl.rate.toNat ≤ 16

/-- What a timebase state carries is in range: a slew (R4), and an edge-load target at most 896 ticks below the largest time
value (R36). -/
abbrev TbState.Ok : TbState → Prop
  | .slewing sl => sl.Ok
  | .awaitEdge w => w.target.toNat + 896 < 2 ^ 56
  | _ => True

/-- The timebase: its state in range, the slew rate register 4 to 16 (R14), and the trim window position within the window
(R12). -/
abbrev Timebase.Ok (tb : Timebase) : Prop :=
  tb.state.Ok ∧ 4 ≤ tb.rate.toNat ∧ tb.rate.toNat ≤ 16 ∧ tb.position ≤ tb.inForce.window.cycles

/-- A capture line (R44, R45): a disabled line has its qualified level unset and neither run nor sample; the interval count
stays below 2^d; a run stands at the level opposite to the qualified level and has a count of 1 to q − 1. -/
abbrev CapLine.Ok (l : CapLine) : Prop :=
  (l.enabled = false → l.level = none ∧ l.run = none ∧ l.due = false ∧ l.interval = 0) ∧
  l.interval.toNat < 2 ^ l.divisor.toNat ∧
  ∀ r ∈ l.run, l.level = some r.candidate.inverse ∧ 1 ≤ r.count ∧ r.count < l.qual

/-- The capture unit: its lines, and the line an edge-aligned load waits for is enabled (R36, R41). -/
abbrev State.CaptureOk (s : State) : Prop :=
  (∀ n, (s.cap.get n).Ok) ∧ ∀ n ∈ s.tb.awaited, (s.cap.get n).enabled = true

/-- The host-given fields of entry `n` (R62, R69). -/
abbrev Plan.Ok (n : Fin 32) (p : Plan) : Prop :=
  (∀ q ∈ p.cadence.period, 256 ≤ q.toNat) ∧ p.cadence.limit ≠ some 0 ∧ p.deed.width ≠ some 0 ∧
  ∀ l ∈ p.link, l.entry ≠ n

/-- Entry `n` (R62, R63, R92): `remaining` is present exactly where the limit is; a PARKED entry stands at its starting values
and has never been armed; an ARMED entry has been armed and has occurrences left. -/
abbrev Entry.Ok (n : Fin 32) : Entry → Prop
  | .free => True
  | .parked p k => p.Ok n ∧ k = Kept.start p none
  | .armed p k _ => p.Ok n ∧ k.remaining.isSome = p.cadence.limit.isSome ∧ k.armedEpoch ≠ none ∧ k.remaining ≠ some 0
  | .done _ p k => p.Ok n ∧ k.remaining.isSome = p.cadence.limit.isSome

/-- Every entry of the schedule table is sound. -/
abbrev State.TableOk (s : State) : Prop := ∀ n, (s.entry n).Ok n

/-- A line has a pulse in flight only while its level is the pulse's active level (R112). -/
abbrev OutLine.Ok (l : OutLine) : Prop := ∀ p ∈ l.pulse, l.level = p.active

/-- The count of a QUALIFYING guard line, where it is in such a state (R149). -/
def GuardState.count : GuardState → Option Nat
  | .inactive => none
  | .toActive c => some c
  | .active => none
  | .toInactive c => some c

/-- A guard line (R147, R149, R150, R151): n is 1 to 15; a disabled line is INACTIVE and has no sample due; a QUALIFYING line has
a count of 1 to n − 1, or of 1 where n was written in the cycle of its first sample; and a sample that is due is judged by
the line's own terms, but for one whose line was written in this cycle and so has no run. -/
abbrev GuardLine.Ok (l : GuardLine) : Prop :=
  1 ≤ l.qual.toNat ∧ (l.enabled = false → l.state = .inactive ∧ l.due = none) ∧
  (∀ c ∈ l.state.count, 1 ≤ c ∧ (c = 1 ∨ c < l.qual.toNat)) ∧
  ∀ terms ∈ l.due, 1 ≤ terms.qual.toNat ∧
    (terms = { activeLevel := l.activeLevel, qual := l.qual } ∨ l.state.count = none)

/-- A line stands as a trip has left it (R122): without a pulse, and at its safe level where that is LOW or HIGH. -/
abbrev OutLine.HeldSafe (sl : SafeLevel) (l : OutLine) : Prop :=
  l.pulse = none ∧ l.level = sl.apply l.level

/-- The guard unit (R153): GUARD is in the hold set exactly while the unit is tripped, and then every output line stands as
the trip has left it. -/
abbrev State.GuardOk (s : State) : Prop :=
  s.disp.holdGuard = s.guard.tripped ∧ (∀ n, (s.guard.lines.get n).Ok) ∧
  (s.guard.tripped = true → ∀ n, (s.outs.get n).HeldSafe (s.guard.safe.get n))

end Sys2Proof.Machine
end

