-- ==== Sys2Proof/WellFormed.lean ====
section
/-! DEFINITION. Which commands are written as their row means them: a byte that another row of the table stands for is
written as that row. The meanings are total all the same. Also which commands are a write data byte. -/

namespace Sys2Proof

/-- An address in the time window (R180). -/
def inTimeWindow (addr : Addr) : Bool := decide (addr.toNat < 0x08)

/-- An address in the head window (R180). -/
def inHeadWindow (addr : Addr) : Bool := decide (0x38 ≤ addr.toNat ∧ addr.toNat < 0x48)

/-- An address of the staging record (R180). -/
def inStagingRecord (addr : Addr) : Bool := decide (0x48 ≤ addr.toNat ∧ addr.toNat < 0x68)

/-- ADDRESS_BYTE stands for every address byte but those of a read that begins in the time window or the head window: those
are TIME_SNAPSHOT and HEAD_LATCH (R176, R138). REGISTER_WRITE stands for the data bytes at addresses whose writes have no
row of their own: the staging record, and the time and head windows, which ignore them (R175). -/
def Instr.wf : Instr → Bool
  | .addressByte b => !(b.getLsbD 7 && (inTimeWindow (b.setWidth 7) || inHeadWindow (b.setWidth 7)))
  | .registerWrite addr _ => inTimeWindow addr || inHeadWindow addr || inStagingRecord addr
  | .countingCycle _ | .frozenCycle _ | .trimWindowEnd | .slewModification _ => true
  | .deferredSlewModification _ | .wrap => true
  | .tbStart _ | .tbStop _ | .tbLoad _ _ | .tbJump _ _ | .tbSlew _ | .tbLoadEdge _ | .tbCancelEdge _ => true
  | .captureSample _ | .guardSample | .dispatch _ | .pulseEnd _ => true
  | .schArm _ | .schPark _ | .schCancel _ | .schCancelAll _ | .schFree _ | .schView _ | .schHold _ | .schResume _ => true
  | .outSet _ | .outClear _ | .qPop _ | .qFlush _ | .grdRelease _ | .softReset _ => true
  | .captureEnable _ _ _ | .captureDisable _ _ _ | .samplingRestart _ _ _ | .captureConfigWrite _ _ _ => true
  | .guardEnable _ _ _ | .guardDisable _ _ _ | .guardReconfig _ _ _ => true
  | .trimWrite _ _ | .slewRateWrite _ | .safeLevelWrite _ _ | .modeWrite _ _ | .idleLevelWrite _ _ => true
  | .queueConfigWrite _ | .pendingClear _ | .enableWrite _ | .pageSelectWrite _ => true
  | .timeSnapshot _ | .headLatch _ | .transactionEnd | .powerOnReset | .pinReset | .pinResetRelease => true
  | .readDataByte => true

/-- The commands that are a write data byte: the strobes and the writes of registers (R171, R174). -/
def Instr.isDataByte : Instr → Bool
  | .tbStart _ | .tbStop _ | .tbLoad _ _ | .tbJump _ _ | .tbSlew _ | .tbLoadEdge _ | .tbCancelEdge _ => true
  | .schArm _ | .schPark _ | .schCancel _ | .schCancelAll _ | .schFree _ | .schView _ | .schHold _ | .schResume _ => true
  | .outSet _ | .outClear _ | .qPop _ | .qFlush _ | .grdRelease _ | .softReset _ => true
  | .captureEnable _ _ _ | .captureDisable _ _ _ | .samplingRestart _ _ _ | .captureConfigWrite _ _ _ => true
  | .guardEnable _ _ _ | .guardDisable _ _ _ | .guardReconfig _ _ _ => true
  | .trimWrite _ _ | .slewRateWrite _ | .safeLevelWrite _ _ | .modeWrite _ _ | .idleLevelWrite _ _ => true
  | .queueConfigWrite _ | .pendingClear _ | .enableWrite _ | .pageSelectWrite _ | .registerWrite _ _ => true
  | .countingCycle _ | .frozenCycle _ | .slewModification _ | .deferredSlewModification _ => false
  | .trimWindowEnd | .wrap | .captureSample _ | .guardSample | .dispatch _ | .pulseEnd _ => false
  | .timeSnapshot _ | .headLatch _ | .transactionEnd | .addressByte _ | .readDataByte => false
  | .powerOnReset | .pinReset | .pinResetRelease => false

end Sys2Proof
end

