-- ==== Sys2Proof/Certificates/Slice0/Obligations.lean ====
section
/-! DEFINITION. The statements for the provers. Each docstring names the rule a statement formalises; the words
`answered`, `past`, `Runs`, `CycleDone`, `Fails`, `WindowShows` and the `Ok` predicates stand in Safety.lean. -/

section

open Sys2Proof Sys2Proof.Machine

/-! ## The queue of commands and the resets -/

/-- The front command takes effect on the state with the queue's rest. An empty queue idles: that clause is the model's choice,
log entry 1. -/
def Obligations.StepTakesFrontCommandOrIdles : Prop :=
  (∀ (c : Instr) (rest : List Instr) (s : State), s.pending = c :: rest →
    step s = exec c { s with pending := rest }) ∧
  ∀ s : State, s.pending = [] → step s = .next s

/-- No command reaches the queue of the commands that wait. -/
def Obligations.NoCommandTouchesTheWaitingCommands : Prop :=
  ∀ (c : Instr) (s t : State), exec c s = .next t → t.pending = s.pending

/-- The power-on values of R19, R58, R109 and R144, with those of R81, R124, R158, R168 and R178: the state after reset has
them, and POWER_ON_RESET brings them about from every state. The model's choices among them (DESIGN CHOICE): that the waiting
commands stay is log entry 21, MISO at high impedance rests on CS_N starting high, log entry 9, and that no guard sample, no
offer and no notice is under way is log entry 24. -/
def Obligations.PowerOnSetsEveryBlock : Prop :=
  State.reset.PowerOnValues ∧
  ∀ s : State, ∃ t, exec .powerOnReset s = .next t ∧ t.PowerOnValues ∧ t.pending = s.pending

/-- SOFT_RESET (R167; R21, R60, R83, R111, R126, R146, R160, R168, R179), in either order with the offers that wait at the
queue's port (R146; which of them can be taken first is log entry 8). `b` is the state once the offers that come first and
the action taken before the command in the same cycle have reached the queue and the output unit (R126). -/
def Obligations.SoftResetLeavesTimeInputsAndProtection : Prop :=
  ∀ (arg : Byte) (order : ResetOrder) (s : State), s.takesBytes = true →
    let b := (match order with
      | .offersFirst => s.drainReady
      | .resetFirst => s).deliverAction
    ∃ t, exec (.softReset ⟨arg, order⟩) s = .next t ∧
      (∀ n, t.entry n = .free) ∧ t.sched.view = { index := 0, entry := .free } ∧ t.sched.staging = s.sched.staging ∧
      t.disp = { holdHost := false, holdGuard := s.disp.holdGuard, fault := .none } ∧
      (∀ n, t.outs.get n =
        { b.outs.get n with
          level := if s.guard.tripped then (b.outs.get n).level else (s.outs.get n).idle
          pulse := none }) ∧
      t.trq = { b.trq with records := [] } ∧ t.cyc = b.cyc ∧
      t.icu = { s.icu with flags := .clear, result := { strobe := 0x7C, code := .ok } } ∧
      t.tb = s.tb ∧ t.cap = s.cap ∧ t.guard = s.guard ∧ t.sp = s.sp ∧ t.pins = s.pins

/-- RESET_N goes low (R20, R59, R82, R110, R125, R145, R159, R169, R178). `b` is the state once what an earlier event of the
same cycle has under way has been taken (log entry 25). -/
def Obligations.PinResetKeepsTimeAndGuard : Prop :=
  ∀ s : State, s.resetLow = false →
    let b := s.drainReady.deliverAction
    ∃ t, exec .pinReset s = .next t ∧ t.resetLow = true ∧
      t.tb = (match s.tb.state with
        | .awaitEdge w =>
          { s.tb with state := if w.frozen then .stopped else .running, cancelOwed := true }
        | _ => s.tb) ∧
      (∀ n, t.cap.get n = .reset) ∧ (∀ n, t.entry n = .free) ∧
      t.sched.staging = .reset ∧ t.sched.view = { index := 0, entry := .free } ∧
      t.disp = { holdHost := false, holdGuard := s.disp.holdGuard, fault := .none } ∧
      (∀ n, t.outs.get n =
        { mode := .off, idle := .low, pulse := none,
          level := if s.guard.tripped then (s.guard.safe.get n).apply (b.outs.get n).level else .low }) ∧
      t.trq = .reset ∧ t.guard = s.guard ∧ t.icu = .reset ∧ t.cyc = b.cyc ∧ t.pins = s.pins ∧
      t.sp.page = 0 ∧ t.sp.snapshot = { time := 0, epoch := 0, status := 0 } ∧
      (t.sp.tx = if s.sp.tx = .idle then .idle else .ignored)

/-- When the port takes no byte, and the release of RESET_N. While RESET_N is low, or CS_N is ignored after it (R178), or a read
runs (R170, R177), no write data byte, and so no command and no write, changes anything. While RESET_N is low an address
byte leaves CS_N low and ignored until it rises: that is log entry 18 (DEDUCED). As RESET_N rises (R169) the offers made
before it in the cycle are taken without a QLOSS that is kept (log entry 25), and the ICU takes TBEVT for an edge-aligned
load that the reset cancelled (R20) and GTRIP where the guard unit is tripped (R159). -/
def Obligations.PortIdlesInResetAndFlagsAreOwed : Prop :=
  (∀ (c : Instr) (s : State), c.isDataByte = true →
    (s.resetLow = true ∨ s.sp.tx = .ignored ∨ ∃ p src, s.sp.tx = .reading p src) → exec c s = .next s) ∧
  ∀ s : State, s.resetLow = true →
    let ignored : State := { s with sp := { s.sp with tx := .ignored } }
    let b := if s.cyc.offers = [] then s else s.takeGuard.drainAll
    (∀ x, exec (.addressByte x) s = .next ignored) ∧ (∀ o, exec (.timeSnapshot o) s = .next ignored) ∧
    (∀ o, exec (.headLatch o) s = .next ignored) ∧ exec .readDataByte s = .next s ∧
    exec .pinResetRelease s = .next
      { b with
        resetLow := false
        tb := { s.tb with cancelOwed := false }
        icu := { s.icu with flags :=
          { s.icu.flags with
            tbevt := s.icu.flags.tbevt || s.tb.cancelOwed
            gtrip := s.icu.flags.gtrip || b.guard.tripped } } }

/-! ## REFCLK cycles -/

/-- What every REFCLK cycle moves, counting or frozen (R45, R119, R148): the interval counts with the samples that fall in
the cycle, the pulses' counts, the guard sample clock with the guard samples of a guard sample cycle, judged by the terms that
stand as it begins (R151), and the two-stage synchroniser; and the cycle's own business starts afresh. A CS_N that falls
awaits its address byte, or is ignored in a pin reset (R170, R178; log entries 18 and 31). `e` is the state at the end of the
cycle before. -/
def Obligations.EveryCycleMovesTheCounts : Prop :=
  ∀ (pins : InputPins) (order : EndOrder) (s t : State) (frozen : Bool),
    let e := s.endCycle
    let sampleCycle := decide ((e.guard.clock.toNat + 1) % 65536 = 0)
    e.tb.state.counting = !frozen →
    exec (if frozen then .frozenCycle pins else .countingCycle ⟨pins, order⟩) s = .next t →
      t.cyc.frozen = frozen ∧
      (∀ n, t.cap.get n =
        if (e.cap.get n).enabled then
          { e.cap.get n with
            due := decide ((e.cap.get n).interval = 0)
            interval := BitVec.ofNat 7 (((e.cap.get n).interval.toNat + 1) % 2 ^ (e.cap.get n).divisor.toNat) }
        else { e.cap.get n with due := false }) ∧
      (∀ n, t.outs.get n =
        { e.outs.get n with pulse := (e.outs.get n).pulse.map fun p => { p with remaining := p.remaining - 1 } }) ∧
      (∀ n, let l := e.guard.lines.get n
        t.guard.lines.get n = { l with due :=
          if sampleCycle = true ∧ l.enabled = true then some { activeLevel := l.activeLevel, qual := l.qual }
          else none }) ∧
      t.guard.clock = e.guard.clock + 1 ∧ t.guard.tripped = e.guard.tripped ∧ t.guard.safe = e.guard.safe ∧
      t.pins = { e.pins with now := pins, before := e.pins.now, sampled := e.pins.before } ∧
      t.sp = (if pins.csLow = true ∧ e.sp.tx = .idle then
          { e.sp with tx := if s.resetLow then .ignored else .addressing }
        else e.sp) ∧
      t.cyc.decided = false ∧ t.cyc.notices = [] ∧ t.cyc.action = none ∧ t.cyc.earlySkips = .fill 32 false ∧
      t.sched = e.sched ∧ t.disp = e.disp ∧ t.trq = e.trq ∧ t.resetLow = s.resetLow

/-- FROZEN_CYCLE, and COUNTING_CYCLE without a slew (R3, R5, R6, R11, R12): in STOPPED, and in AWAIT_EDGE with the frozen
attribute, the timebase holds everything; in RUNNING, and in AWAIT_EDGE with the running attribute, the advance is 1 tick,
changed by 1 in the direction of the trim on a trim-modified cycle, the window position moves on by one, and the wrap falls
due where the sum passes 2^56 − 1 (R17). -/
def Obligations.CycleAddsTheAdvanceOrHolds : Prop :=
  ∀ (pins : InputPins) (order : EndOrder) (s : State),
    let e := s.endCycle
    let i := e.tb.position + 1
    let n := e.tb.inForce.window.cycles
    let m := e.tb.inForce.magnitude.toNat
    let advance := if i * m / n > (i - 1) * m / n then (if e.tb.inForce.negative then 0 else 2) else 1
    ((e.tb.state = .stopped ∨ ∃ w, e.tb.state = .awaitEdge w ∧ w.frozen = true) →
      ∃ t, exec (.frozenCycle pins) s = .next t ∧ t.tb = e.tb ∧ t.cyc.frozen = true ∧ t.cyc.wrapDue = false ∧
        t.cyc.slewEndDue = none ∧ t.cyc.offers = [] ∧ t.icu = e.icu) ∧
    ((e.tb.state = .running ∨ ∃ w, e.tb.state = .awaitEdge w ∧ w.frozen = false) →
      ∃ t, exec (.countingCycle ⟨pins, order⟩) s = .next t ∧
        t.tb = { e.tb with time := BitVec.ofNat 56 (e.tb.time.toNat + advance), position := i } ∧
        t.cyc.frozen = false ∧ t.cyc.wrapDue = decide (2 ^ 56 ≤ e.tb.time.toNat + advance) ∧
        t.cyc.slewEndDue = none ∧ t.cyc.offers = [] ∧ t.icu = e.icu)

/-- A counting cycle of a slew (R3, R15, R16, R32), by whichever row it is commanded. A modification falls due on the cycles
whose count is a multiple of 2^s; one that is due or deferred is applied unless the cycle is trim-modified, and then stands
deferred; an applied one changes the advance by one tick and moves the remainder one tick toward 0. -/
def Obligations.SlewCycleAppliesOrDefers : Prop :=
  ∀ (pins : InputPins) (order : EndOrder) (s : State) (sl : Slew),
    let e := s.endCycle
    let i := e.tb.position + 1
    let n := e.tb.inForce.window.cycles
    let m := e.tb.inForce.magnitude.toNat
    let trimmed := decide (i * m / n > (i - 1) * m / n)
    let due := decide ((sl.count + 1) % 2 ^ sl.rate.toNat = 0)
    let applied := (due || sl.deferred) && !trimmed
    let toward : Int := if 0 < sl.remainder then 1 else -1
    let advance : Int :=
      if trimmed then (if e.tb.inForce.negative then 0 else 2) else if applied then 1 + toward else 1
    let remainder := if applied then sl.remainder - toward else sl.remainder
    e.tb.state = .slewing sl → sl.Ok →
    ∃ t, exec (.countingCycle ⟨pins, order⟩) s = .next t ∧
      (due = true → exec (.slewModification ⟨pins, order⟩) s = .next t) ∧
      (sl.deferred = true → trimmed = false → exec (.deferredSlewModification ⟨pins, order⟩) s = .next t) ∧
      t.tb = { e.tb with
        time := BitVec.ofNat 56 (e.tb.time.toNat + advance.toNat)
        position := i
        state := if remainder = 0 then .slewEnding
          else .slewing { sl with count := sl.count + 1, remainder := remainder,
                                  deferred := (due || sl.deferred) && trimmed } } ∧
      t.cyc.frozen = false ∧ t.cyc.wrapDue = decide (2 ^ 56 ≤ e.tb.time.toNat + advance.toNat)

/-- The end of a slew (R33): on the cycle on which the remainder reaches 0 the SLEW_END record is offered with the time and the
epoch of the cycle and the starting amount, and TBEVT is set, as the cycle opens or after its other events (either may be
first: log entry 6), and after the WRAP record where the cycle wraps (R23; `WrapChangesTheEpoch`). From the next cycle the
timebase is RUNNING. -/
def Obligations.SlewEndsWithItsLastModification : Prop :=
  ∀ (pins pins' : InputPins) (order order' : EndOrder) (s t : State) (sl : Slew),
    let e := s.endCycle
    let offered (x : State) : State := { x with
      cyc := { x.cyc with
        slewEndDue := none
        offers := insertOffer { time := x.tb.time, epoch := x.tb.epoch, body := .step .slewEnd false sl.start }
          x.cyc.offers }
      icu := { x.icu with flags := { x.icu.flags with tbevt := x.icu.flags.tbevt || !x.resetLow } } }
    let waiting : State := { t with
      cyc := { t.cyc with slewEndDue := some sl.start, offers := [] }, icu := e.icu }
    e.tb.state = .slewing sl → exec (.countingCycle ⟨pins, order⟩) s = .next t → t.tb.state = .slewEnding →
      (t = if order = .endFirst ∧ t.cyc.wrapDue = false then offered waiting else waiting) ∧
      (∀ x : State, x.cyc.slewEndDue = some sl.start → x.offerSlewEnd = offered x) ∧
      ∃ u, exec (.countingCycle ⟨pins', order'⟩) t = .next u ∧ u.tb.state = .running

/-- The end of a cycle in every state (R33, R86, R115, R119, R122, R131, R171). What of the cycle is untaken is taken as its own
rows take it, in the order of log entry 2 (DESIGN CHOICE): guard samples, capture samples, wrap, a SLEW_END, a waiting action,
pulse ends, the dispatch decision, the end of a trim window; the port takes the offers, the read byte is fetched, and a slew
that ended is over. The pins show that state `x`: a DRIVEN line its level, an OFF line high impedance, IRQ_N low exactly where
some pending flag and its enable are both set (R164), and MISO at high impedance while CS_N is high or without a transaction,
low in the address byte and in a write, and the fetched byte in a read (R170). Where every event has been taken, nothing but
the pins moves. -/
def Obligations.EndOfCycleShowsThePins : Prop :=
  ∀ s : State,
    let acted (y : State) : State := match y.cyc.action with
      | none => y
      | some d => { y with
          outs := if y.guard.tripped then y.outs else d.act y.outs
          cyc := { y.cyc with action := none } }
    ∃ (u v x : State) (p : Pins),
      State.Runs ([.guardSample] ++ (List.finRange 6).map .captureSample ++ [.wrap]) s u ∧
      State.Runs ((List.finRange 8).map .pulseEnd ++ [.dispatch .actionFirst, .trimWindowEnd]) (acted u.offerSlewEnd) v ∧
      x = (v.cyc.offers.foldl State.takeOffer { v with cyc := { v.cyc with offers := [] } }).fetch ∧
      s.endCycle = { x with
        pins := p
        tb := { x.tb with state := if x.tb.state = .slewEnding then .running else x.tb.state } } ∧
      p.now = s.pins.now ∧ p.before = s.pins.before ∧ p.sampled = s.pins.sampled ∧
      (∀ n, p.outs.get n = match (x.outs.get n).mode, (x.outs.get n).level with
        | .off, _ => .highZ
        | .driven, .low => .low
        | .driven, .high => .high) ∧
      (s.pins.now.csLow = false ∨ x.sp.tx = .idle → p.miso = .highZ) ∧
      (s.pins.now.csLow = true → (x.sp.tx = .addressing ∨ ∃ a, x.sp.tx = .writing a) → p.miso = .low) ∧
      (s.pins.now.csLow = true → ∀ a src, x.sp.tx = .reading a src → p.miso = .shifting x.sp.shift) ∧
      (p.irqLow = true ↔
        x.trq.threshold.toNat ≤ x.trq.records.length ∧ x.icu.enables.getLsbD 0 = true ∨
        x.icu.flags.qloss = true ∧ x.icu.enables.getLsbD 1 = true ∨
        x.icu.flags.sfault = true ∧ x.icu.enables.getLsbD 2 = true ∨
        x.icu.flags.gtrip = true ∧ x.icu.enables.getLsbD 3 = true ∨
        x.icu.flags.tbevt = true ∧ x.icu.enables.getLsbD 4 = true ∨
        x.icu.flags.cmderr = true ∧ x.icu.enables.getLsbD 5 = true) ∧
      (s.CycleDone → s.endCycle = { s with pins := p })

/-- TRIM_WINDOW_END (R13): after cycle N the written pair is in force, trim-change-pending is clear, and the next cycle is
cycle 1. -/
def Obligations.TrimWindowEndTakesTheWrittenPair : Prop :=
  ∀ s : State, s.tb.inForce.window.cycles ≤ s.tb.position →
    exec .trimWindowEnd s = .next
      { s with tb := { s.tb with inForce := s.tb.written, trimPending := false, position := 0 } }

/-- The trim-modified cycles of a window (R11): by the rule's formula, exactly m of the cycles 1 to N are marked for a magnitude
m, the last is marked unless m is 0, the first is not, and two marked cycles are at least ⌊N / m⌋ cycles apart, which is
4,096 or more, so that no two are consecutive. -/
def Obligations.TrimMarksAreEvenlySpread : Prop :=
  ∀ (w : TrimWindow) (mag : BitVec 12),
    let n := w.cycles
    let m := mag.toNat
    n = (match w with
      | .one => 1
      | .eight => 8
      | .sixtyFour => 64) * 16777216 ∧
    (∀ i, trimMarked i m n = true ↔ (i - 1) * m / n < i * m / n) ∧
    ((List.range n).countP fun j => trimMarked (j + 1) m n) = m ∧
    (trimMarked n m n = true ↔ m ≠ 0) ∧ trimMarked 1 m n = false ∧
    (∀ i j, 1 ≤ i → i < j → trimMarked i m n = true → trimMarked j m n = true → n / m ≤ j - i) ∧
    (m ≠ 0 → 4096 ≤ n / m) ∧ ∀ i, 1 ≤ i → ¬(trimMarked i m n = true ∧ trimMarked (i + 1) m n = true)

/-- WRAP (R17): the epoch goes up by one, the WRAP record is offered with the new time and epoch and argument 0, TBEVT is set
(and not kept while RESET_N is low, R169), and the notice makes epoch-bound entries STALE and clears every late mark whose due
time lies above the new time, without a sweep (R100); that a mark due at or below the new time stays is log entry 30
(DEDUCED). A slew that ended on the cycle offers its record after it (R23, R33).
Before the command the cycle presents the new epoch already (R2; log entry 7). The cycle of an edge-aligned load carries no
wrap of its own (R22). -/
def Obligations.WrapChangesTheEpoch : Prop :=
  ∀ s : State, s.cyc.wrapDue = true → s.cyc.notices = [] →
    let record (b : Body) : Offer := { time := s.tb.time, epoch := s.tb.epoch + 1, body := b }
    let wrapped := insertOffer (record (.step .wrap false 0)) s.cyc.offers
    ((∀ n ∈ s.tb.awaited, s.completesEdge n = false) →
      s.presented = { s.tb with epoch := s.tb.epoch + 1 } ∧
      exec .wrap s = .next
        { s with
          tb := { s.tb with epoch := s.tb.epoch + 1 }
          cyc := { s.cyc with
            wrapDue := false
            slewEndDue := none
            earlySkips := .fill 32 false
            offers := match s.cyc.slewEndDue with
              | none => wrapped
              | some amount => insertOffer (record (.step .slewEnd false amount)) wrapped }
          icu := { s.icu with flags := { s.icu.flags with tbevt := s.icu.flags.tbevt || !s.resetLow } }
          sched := { s.sched with entries := s.overtake.sched.entries.map fun x => x.stale.unmark s.tb.time } }) ∧
    ((∃ n ∈ s.tb.awaited, s.completesEdge n = true) → exec .wrap s = .next s)

/-! ## Timebase commands -/

/-- TB_START (R7), TB_CANCEL_EDGE (R40) and TB_SLEW (R30, R31) in every state of the timebase. That the cycle of a slew's last
modification still answers as SLEWING is log entry 20 (DEDUCED). -/
def Obligations.StartSlewAndCancelEdgeByState : Prop :=
  ∀ (arg : Byte) (s : State), s.takesBytes = true →
    let v := s.tb.staged.value.toNat
    let amount : Int := if s.tb.staged.negative then -(v : Int) else v
    let slew : Slew := { remainder := amount, rate := s.tb.rate, count := 0, start := amount, deferred := false }
    exec (.tbStart arg) s = .next (match s.tb.state with
      | .stopped => { s with tb := { s.tb with state := .running } }.answered 0x68 .ok
      | .awaitEdge _ => s.answered 0x68 .tbBusy
      | _ => s.answered 0x68 .badState) ∧
    exec (.tbCancelEdge arg) s = .next (match s.tb.state with
      | .awaitEdge w =>
        { s with tb := { s.tb with state := if w.frozen then .stopped else .running } }.answered 0x6E .ok
      | _ => s.answered 0x6E .badState) ∧
    exec (.tbSlew arg) s = .next (match s.tb.state with
      | .stopped => s.answered 0x6C .tbStopped
      | .running =>
        if 1 ≤ v ∧ v ≤ 8388607 then
          { s with tb := { s.tb with state := .slewing slew } }.answered 0x6C .ok
        else s.answered 0x6C .badField
      | _ => s.answered 0x6C .tbBusy)

/-- TB_STOP (R8) in every state of the timebase; `b` is the state once a wrap of the cycle has been taken, whose record comes
before that of the slew that the command cancels (R23). The cycle of a slew's last modification: log entry 20. -/
def Obligations.StopByState : Prop :=
  ∀ (arg : Byte) (s : State), s.takesBytes = true →
    let b := s.takeWrap
    let cancel (a : Int) : Offer := { time := b.tb.time, epoch := b.tb.epoch, body := .step .slewCancel false a }
    exec (.tbStop arg) s = .next (match s.tb.state with
      | .stopped => s.answered 0x69 .badState
      | .running => { s with tb := { s.tb with state := .stopped } }.answered 0x69 .ok
      | .slewing sl =>
        { b with
          tb := { b.tb with state := .stopped }
          cyc := { b.cyc with offers := insertOffer (cancel sl.remainder) b.cyc.offers } }.answered 0x69 .ok
      | .slewEnding => { s with tb := { s.tb with state := .stopped } }.answered 0x69 .ok
      | .awaitEdge _ => s.answered 0x69 .tbBusy)

/-- TB_LOAD (R25, R26; R22 to R24). `c` has the record of a slew that the load cancels, or that ended on the cycle, before the
load; where the load replaces a wrap, that record carries the old epoch, which is log entry 19 (DEDUCED). The notice is taken
first, or left for later in the cycle: the operand of log entry 6. -/
def Obligations.LoadReplacesTheTime : Prop :=
  ∀ (arg : Byte) (order : NoticeOrder) (s : State), s.takesBytes = true →
    let cancel (a : Int) : Offer := { time := s.tb.time, epoch := s.tb.epoch, body := .step .slewCancel false a }
    let c := match s.tb.state with
      | .slewing sl => { s with cyc := { s.cyc with offers := insertOffer (cancel sl.remainder) s.cyc.offers } }
      | .slewEnding => s.offerSlewEnd
      | _ => s
    let v := s.tb.staged.value
    let load : Offer := { time := v, epoch := s.tb.epoch + 1, body := .step .load false 0 }
    let t : State := { c with
      tb := { c.tb with
        time := v
        epoch := s.tb.epoch + 1
        state := if s.tb.state = .stopped then .stopped else .running }
      cyc := { c.cyc with
        wrapDue := false
        offers := insertOffer load c.cyc.offers
        notices := c.cyc.notices ++ [{ epoch := s.tb.epoch + 1, time := v, sweep := true }] } }
    exec (.tbLoad arg order) s = .next (match s.tb.awaited, order with
      | some _, _ => s.answered 0x6A .tbBusy
      | none, .noticeFirst => t.takeNotices.answered 0x6A .ok
      | none, .noticeLast => t.answered 0x6A .ok)

/-- TB_JUMP (R27, R28; R22 to R24): the base is the value the cycle has by counting, before any wrap; the STEP record carries
the signed amount clipped to ±8,388,607, and BACKWARD where it is negative. That the cycle of a slew's last modification
answers TB_BUSY is log entry 20 (DEDUCED), that an amount of 0 on a cycle that counts past 2^56 − 1 is refused with BAD_FIELD
is log entry 30 (DEDUCED), and the place of the notice is the operand of log entry 6. -/
def Obligations.JumpAddsTheStagedAmount : Prop :=
  ∀ (arg : Byte) (order : NoticeOrder) (s : State), s.takesBytes = true →
    let staged := s.tb.staged
    let amount : Int := if staged.negative then -(staged.value.toNat : Int) else staged.value.toNat
    let value : Int := (s.tb.time.toNat + if s.cyc.wrapDue then 2 ^ 56 else 0 : Nat) + amount
    let v := BitVec.ofNat 56 value.toNat
    let jump : Offer :=
      { time := v, epoch := s.tb.epoch + 1,
        body := .step .jump (decide (amount < 0)) (max (-8388607) (min 8388607 amount)) }
    let t : State := { s with
      tb := { s.tb with time := v, epoch := s.tb.epoch + 1 }
      cyc := { s.cyc with
        wrapDue := false
        offers := insertOffer jump s.cyc.offers
        notices := s.cyc.notices ++ [{ epoch := s.tb.epoch + 1, time := v, sweep := true }] } }
    exec (.tbJump arg order) s = .next (
      if s.tb.state = .stopped ∨ s.tb.state = .running then
        if value < 0 ∨ 2 ^ 56 ≤ value then s.answered 0x6B .badField
        else match order with
          | .noticeFirst => t.takeNotices.answered 0x6B .ok
          | .noticeLast => t.answered 0x6B .ok
      else s.answered 0x6B .tbBusy)

/-- The reaction of the schedule table and the dispatcher to one notice (R99, R100, R101): epoch-bound ARMED and PARKED entries
go to DONE STALE; then the late marks above the new time are cleared; then, where the sweep is indicated and the hold set is
empty, every entry is examined against the new time. Nothing but the entries changes. That a mark due at or below the new
time stays at a wrap too is log entry 30 (DEDUCED). The notices of a cycle are taken in their order, after the entries noted in
`earlySkips` have become STALE (R73, R102; log entry 33, DEDUCED). -/
def Obligations.NoticeActsInOrder : Prop :=
  ∀ (s : State) (n : Notice),
    let react (e : Entry) : Entry := match e with
      | .parked p k => if p.epochBound then .done .stale p k else .parked p k
      | .armed p k late =>
        if p.epochBound then .done .stale p k else .armed p k (late && decide (p.due.toNat ≤ n.time.toNat))
      | e => e
    let all (e : Entry) : Entry :=
      if n.sweep = true ∧ s.disp.holdHost = false ∧ s.disp.holdGuard = false then (react e).treat n.time else react e
    s.takeNotice n = { s with sched := { s.sched with entries := s.sched.entries.map all } } ∧
    (∀ m, s.overtake.entry m =
      if s.cyc.earlySkips.get m then
        match s.entry m with
        | .done .skipped p k => .done .stale p k
        | e => e
      else s.entry m) ∧
    s.overtake = { s with
      sched := { s.sched with entries := s.overtake.sched.entries }
      cyc := { s.cyc with earlySkips := .fill 32 false } } ∧
    s.takeNotices = (if s.cyc.notices = [] then s else
      s.cyc.notices.foldl State.takeNotice { s.overtake with cyc := { s.overtake.cyc with notices := [] } })

/-- TB_LOAD_EDGE (R36, R37): its checks in their order, and AWAIT_EDGE with the attribute of the state it was taken in. That the
cycle of a slew's last modification answers TB_BUSY is log entry 20 (DEDUCED). -/
def Obligations.LoadEdgeWaitsForTheLine : Prop :=
  ∀ (arg : Byte) (s : State), s.takesBytes = true →
    let wait (n : Fin 6) : EdgeWait :=
      { target := s.tb.staged.value, line := n, frozen := decide (s.tb.state = .stopped) }
    exec (.tbLoadEdge arg) s = .next (
      if s.tb.state = .stopped ∨ s.tb.state = .running then
        if h : arg.toNat < 6 then
          if (s.cap.get ⟨arg.toNat, h⟩).enabled = false then s.answered 0x6D .badState
          else if 2 ^ 56 - 1 - 896 < s.tb.staged.value.toNat then s.answered 0x6D .badField
          else { s with tb := { s.tb with state := .awaitEdge (wait ⟨arg.toNat, h⟩) } }.answered 0x6D .ok
        else s.answered 0x6D .badIndex
      else s.answered 0x6D .tbBusy)

/-! ## Capture lines -/

/-- CAPTURE_SAMPLE (R46, R53): the table of qualification, where the sample completes no edge that the line reports. The time and
the epoch that the cycle presents (R2; log entry 7) and its frozen indication go into a run that starts. -/
def Obligations.CaptureSampleQualifies : Prop :=
  ∀ (n : Fin 6) (s : State),
    let l := s.cap.get n
    let v := Level.ofBool (s.pins.sampled.cap.getLsbD n.val)
    let start : Run :=
      { candidate := v, time := s.presented.time, epoch := s.presented.epoch, frozen := s.cyc.frozen, count := 1 }
    let l' : CapLine := match l.level, l.run with
      | none, _ => { l with level := some v }
      | some q, none =>
        if v = q then l else if l.qual = 1 then { l with level := some v } else { l with run := some start }
      | some q, some r =>
        if v = q then { l with run := none }
        else if r.count + 1 < l.qual then { l with run := some { r with count := r.count + 1 } }
        else { l with level := some v, run := none }
    l.Ok → l.due = true →
    (l'.level = l.level ∨ l.level = none ∨ l.edges = .rising ∧ v = .low ∨ l.edges = .falling ∧ v = .high) →
    exec (.captureSample n) s = .next { s with cap := s.cap.set n { l' with due := false } }

/-- The completion of an edge (R47, R48, R49, R50, R51): the run completes, the trigger is stale, missed, out of range or arms
its PARKED target with timestamp plus offset and is examined at its arming (R93), and a line that logs offers its EDGE
record with the outcome and q. `first` is the first sample: that of the run, or this cycle's where q is 1. `now` is what the
cycle presents (R2; log entry 7). An awaited edge is in `AwaitedEdgeLoadsTheTarget`. -/
def Obligations.CompletedEdgeTriggersAndRecords : Prop :=
  ∀ (n : Fin 6) (s : State) (q : Level),
    let l := s.cap.get n
    let now := s.presented
    let v := Level.ofBool (s.pins.sampled.cap.getLsbD n.val)
    let first := l.run.getD
      { candidate := v, time := now.time, epoch := now.epoch, frozen := s.cyc.frozen, count := 0 }
    let due := first.time.toNat + l.offset.toNat
    let outcome : Trigger :=
      if l.targetNone then .noMiss
      else if first.epoch ≠ now.epoch then .stale
      else match s.entry l.target.toFin with
        | .parked _ _ => if due < 2 ^ 56 then .noMiss else .miss
        | _ => .miss
    let fault : SchedFault := match outcome with
      | .noMiss => s.disp.fault
      | .miss => .trigMiss n
      | .stale => .trigStale n
    let edge : Offer :=
      { time := first.time, epoch := first.epoch, body := .edge n v.isHigh first.frozen outcome l.qual }
    s.tb.awaited ≠ some n → l.Ok → l.due = true → l.level = some q → v ≠ q → first.count + 1 = l.qual →
    (l.edges = .both ∨ l.edges = .rising ∧ v = .high ∨ l.edges = .falling ∧ v = .low) →
    ∃ t, exec (.captureSample n) s = .next t ∧
      t.cap = s.cap.set n { l with level := some v, run := none, due := false } ∧
      (∀ m, t.entry m = match s.entry m with
        | .parked p k =>
          if l.targetNone = false ∧ m = l.target.toFin ∧ outcome = .noMiss then
            Entry.treat now.time (.armed { p with due := BitVec.ofNat 56 due }
              { k with armedEpoch := some now.epoch } false)
          else .parked p k
        | e => e) ∧
      t.disp = { s.disp with fault := fault } ∧
      t.icu = { s.icu with flags :=
        { s.icu.flags with sfault := s.icu.flags.sfault || (decide (outcome ≠ .noMiss) && !s.resetLow) } } ∧
      t.cyc = { s.cyc with offers := if l.log then insertOffer edge s.cyc.offers else s.cyc.offers } ∧
      t.sched.staging = s.sched.staging ∧ t.sched.view = s.sched.view ∧
      t.tb = s.tb ∧ t.outs = s.outs ∧ t.trq = s.trq ∧ t.guard = s.guard ∧ t.sp = s.sp ∧ t.pins = s.pins

/-- An edge-aligned load (R38, R39, R47, R48): when the awaited edge completes, the time of the cycle becomes the target plus
(q − 1) × 2^d, the epoch goes up by one, the EDGE_LOAD record precedes the EDGE record, which carries the target, the new
epoch and never TIME_FROZEN, TBEVT is set and the timebase is RUNNING. The notice, after any of the cycle that still waits,
leaves the table as `noted`; the trigger then arms its PARKED target with target plus offset in the new epoch or misses, and
is never stale (R50, R51); it is examined at its arming (R93) against the loaded time, also where a command after gives the
cycle a second time (log entry 34, DEDUCED). Before the sample the cycle presents the loaded time already (R2, R22; log
entry 7). -/
def Obligations.AwaitedEdgeLoadsTheTarget : Prop :=
  ∀ (s : State) (w : EdgeWait),
    let l := s.cap.get w.line
    let v := Level.ofBool (s.pins.sampled.cap.getLsbD w.line.val)
    let time := BitVec.ofNat 56 (w.target.toNat + l.qualMinus1.toNat * 2 ^ l.divisor.toNat)
    let loaded : Timebase := { s.tb with state := .running, time := time, epoch := s.tb.epoch + 1 }
    let load : Offer := { time := time, epoch := loaded.epoch, body := .step .edgeLoad false 0 }
    let notice : Notice := { epoch := loaded.epoch, time := time, sweep := true }
    let noted := (s.cyc.notices ++ [notice]).foldl State.takeNotice s.overtake
    let due := w.target.toNat + l.offset.toNat
    let outcome : Trigger :=
      if l.targetNone then .noMiss
      else match noted.entry l.target.toFin with
        | .parked _ _ => if due < 2 ^ 56 then .noMiss else .miss
        | _ => .miss
    let edge : Offer :=
      { time := w.target, epoch := loaded.epoch, body := .edge w.line v.isHigh false outcome l.qual }
    s.tb.state = .awaitEdge w → l.Ok → l.due = true → s.completesEdge w.line = true →
    s.presented = loaded ∧
    ∃ t : State, exec (.captureSample w.line) s = .next t ∧ t.tb = loaded ∧
      t.cap = s.cap.set w.line { l with level := some v, run := none, due := false } ∧
      (∀ m, t.entry m = match noted.entry m with
        | .parked p k =>
          if l.targetNone = false ∧ m = l.target.toFin ∧ outcome = .noMiss then
            Entry.treat time (.armed { p with due := BitVec.ofNat 56 due }
              { k with armedEpoch := some loaded.epoch } false)
          else .parked p k
        | e => e) ∧
      t.disp = { s.disp with fault := if outcome = .miss then .trigMiss w.line else s.disp.fault } ∧
      t.icu = { s.icu with flags := { s.icu.flags with
        tbevt := s.icu.flags.tbevt || !s.resetLow
        sfault := s.icu.flags.sfault || (decide (outcome = .miss) && !s.resetLow) } } ∧
      t.cyc = { s.cyc with
        wrapDue := false
        notices := []
        earlySkips := .fill 32 false
        offers := if l.log then insertOffer edge (insertOffer load s.cyc.offers)
          else insertOffer load s.cyc.offers } ∧
      t.sched.staging = s.sched.staging ∧ t.sched.view = s.sched.view ∧
      t.outs = s.outs ∧ t.trq = s.trq ∧ t.guard = s.guard ∧ t.sp = s.sp ∧ t.pins = s.pins

/-- Writes of a capture line's configuration (R43, R53 to R56, R41; R175): enable, d and q lie in one byte, so a write that
leaves an enabled line enabled restarts its sampling; a write that disables the awaited line cancels the edge-aligned load
and sets TBEVT; the other bytes leave interval count, run and qualified level. -/
def Obligations.CaptureConfigurationWrites : Prop :=
  ∀ (n : Fin 6) (d q : BitVec 3) (data : Byte) (s : State), s.takesBytes = true →
    let l := s.cap.get n
    let put (x : CapLine) : State := { s with cap := s.cap.set n x }
    let on : CapLine :=
      if l.enabled then { l with divisor := d, qualMinus1 := q, run := none, interval := 0, due := false }
      else { l with enabled := true, divisor := d, qualMinus1 := q, level := none, run := none, interval := 0,
                    due := false }
    let off : CapLine :=
      if l.enabled then { l with enabled := false, divisor := d, qualMinus1 := q, level := none, run := none,
                                 interval := 0, due := false }
      else { l with divisor := d, qualMinus1 := q }
    let disabled : State := match s.tb.state with
      | .awaitEdge w =>
        if w.line = n then
          { put off with
            tb := { s.tb with state := if w.frozen then .stopped else .running }
            icu := { s.icu with flags := { s.icu.flags with tbevt := true } } }
        else put off
      | _ => put off
    let at_ (i : Nat) : Addr := BitVec.ofNat 7 (0x08 + 7 * n.val + i)
    (∀ m ∈ s.tb.awaited, (s.cap.get m).enabled = true) →
    (exec (.captureEnable n d q) s = .next ((put on).past 1 (at_ 0)) ∧
      exec (.captureDisable n d q) s = .next (disabled.past 1 (at_ 0)) ∧
      exec (.samplingRestart n d q) s = .next ((put (if l.enabled then on else off)).past 1 (at_ 0))) ∧
    exec (.captureConfigWrite n .edgesLog data) s = .next ((put { l with
      edges := if data.toNat % 4 = 0 then .rising else if data.toNat % 4 = 1 then .falling
        else if data.toNat % 4 = 2 then .both else l.edges
      log := data.getLsbD 2 }).past 1 (at_ 1)) ∧
    exec (.captureConfigWrite n .target data) s = .next ((put { l with
      targetNone := data.getLsbD 7, target := data.extractLsb' 0 5 }).past 1 (at_ 2)) ∧
    exec (.captureConfigWrite n .offsetSeconds data) s = .next ((put { l with
      offset := data ++ l.offset.extractLsb' 0 24 }).past 1 (at_ 3)) ∧
    exec (.captureConfigWrite n .offsetHigh data) s = .next ((put { l with
      offset := l.offset.extractLsb' 24 8 ++ data ++ l.offset.extractLsb' 0 16 }).past 1 (at_ 4)) ∧
    exec (.captureConfigWrite n .offsetMid data) s = .next ((put { l with
      offset := l.offset.extractLsb' 16 16 ++ data ++ l.offset.extractLsb' 0 8 }).past 1 (at_ 5)) ∧
    exec (.captureConfigWrite n .offsetLow data) s = .next ((put { l with
      offset := l.offset.extractLsb' 8 24 ++ data }).past 1 (at_ 6))

/-- The sample cycles of an enabled line (R45): from a cycle with interval count 0, the first sample falls in the next cycle
and the later ones 2^d cycles apart. -/
def Obligations.SamplesFallOnTheGrid : Prop :=
  ∀ (l : CapLine) (k : Nat), l.enabled = true → l.interval = 0 →
    ((CapLine.tick^[k + 1] l).due = true ↔ k % 2 ^ l.divisor.toNat = 0)

/-! ## Schedule table -/

/-- The staging record (R62, R66, R69): it fails for an entry exactly where one of the six checks of R69 does, and else it
copies each field under its condition. -/
def Obligations.StagingRecordIsCheckedAndCopied : Prop :=
  ∀ (g : Staging) (n : Fin 32),
    (g.plan n = none ↔ g.Fails n) ∧
    ∀ p, g.plan n = some p →
      p.due = g.due ∧ p.late = (if g.drop then .drop else .fireLate) ∧ p.notify = g.notify ∧
      p.epochBound = g.epochBound ∧
      p.cadence = (if g.periodic then .periodic g.period (if g.limitPresent then some g.limit else none) else .once) ∧
      p.deed.code = g.action.code ∧ (g.action ≠ .none → p.deed.line.map Fin.val = some g.line.toNat) ∧
      p.deed.width = (if g.action = .pulse then some g.width else none) ∧
      p.link.map (fun l => (l.entry.val, l.offset)) =
        if g.linkPresent then some (g.link.toNat, g.linkOffset) else none

/-- SCH_ARM and SCH_PARK (R68, R70, R71, R93): the checks in their order; the entry is ARMED in the epoch in force with its
device-kept fields at their starting values and is treated at its arming where it is overdue at the time that the cycle
presents (log entry 7), or PARKED. Where the notice of a step of this cycle has not been taken, the command comes before it,
the epoch is the old one, and the notice makes an epoch-bound entry DONE STALE (R73), also one that DROP has advanced or skipped
at its arming (log entry 33, DEDUCED). -/
def Obligations.ArmAndParkCopyTheStagingRecord : Prop :=
  ∀ (arg : Byte) (s : State), s.takesBytes = true →
    let now := s.presented.time
    let epoch : Epoch := match s.cyc.notices with
      | [] => s.tb.epoch
      | first :: _ => first.epoch - 1
    let put (n : Fin 32) (e : Entry) : State := { s with
      sched := { s.sched with entries := s.sched.entries.set n e }
      cyc := { s.cyc with
        earlySkips := s.cyc.earlySkips.set n (decide (s.NoticeToCome) && match e with
          | .done .skipped p _ => p.epochBound
          | _ => false) } }
    let start (p : Plan) : Kept :=
      { remaining := p.cadence.limit, fires := 0, skips := 0, lastFire := none, armedEpoch := some epoch }
    let armed (p : Plan) : Entry :=
      let k := start p
      if p.due.toNat ≤ now.toNat then
        match p.late, p.cadence with
        | .fireLate, _ => .armed p k true
        | .drop, .once => .done .skipped p { k with skips := 1 }
        | .drop, .periodic period _ => skipPeriodic now p k period
      else .armed p k false
    (31 < arg.toNat →
      exec (.schArm arg) s = .next (s.answered 0x6F .badIndex) ∧
      exec (.schPark arg) s = .next (s.answered 0x70 .badIndex)) ∧
    ∀ h : arg.toNat < 32,
      let n : Fin 32 := ⟨arg.toNat, h⟩
      ((∃ p k late, s.entry n = .parked p k ∨ s.entry n = .armed p k late) →
        exec (.schArm arg) s = .next (s.answered 0x6F .badState) ∧
        exec (.schPark arg) s = .next (s.answered 0x70 .badState)) ∧
      ((s.entry n = .free ∨ ∃ f p k, s.entry n = .done f p k) →
        (s.sched.staging.plan n = none →
          exec (.schArm arg) s = .next (s.answered 0x6F .badField) ∧
          exec (.schPark arg) s = .next (s.answered 0x70 .badField)) ∧
        ∀ p, s.sched.staging.plan n = some p →
          exec (.schArm arg) s = .next ((put n (armed p)).answered 0x6F .ok) ∧
          (s.NoticeToCome → p.epochBound = true → ∀ ns : List Notice, ns ≠ [] →
            let u := (put n (armed p)).answered 0x6F .ok
            ({ u with cyc := { u.cyc with notices := ns } }.takeNotices : State).entry n = (match armed p with
              | .armed p k _ => .done .stale p k
              | .done _ p k => .done .stale p k
              | e => e)) ∧
          exec (.schPark arg) s = .next ((put n (.parked p
            { remaining := p.cadence.limit, fires := 0, skips := 0, lastFire := none, armedEpoch := none })).answered
              0x70 .ok))

/-- SCH_CANCEL, SCH_CANCEL_ALL, SCH_FREE and SCH_VIEW (R74, R75, R78, R79): checks, results and effects. Where the entry that
this cycle's decision would dispatch is cancelled, the decision is spent, so that no other entry is dispatched on account of
it (R76; log entry 30, DEDUCED). -/
def Obligations.CancelFreeAndViewEntries : Prop :=
  ∀ (arg : Byte) (s : State), s.takesBytes = true →
    let put (n : Fin 32) (e : Entry) : State := { s with sched := { s.sched with entries := s.sched.entries.set n e } }
    let cancelled (e : Entry) : Entry := match e with
      | .parked p k => .done .cancelled p k
      | .armed p k _ => .done .cancelled p k
      | e => e
    let dispatches (i : Fin 32) : Bool :=
      decide (s.disp = { s.disp with holdHost := false, holdGuard := false } ∧ dueHead s.sched.entries = some i) &&
      match s.entry i with
      | .armed p _ _ => decide (p.due.toNat ≤ s.presented.time.toNat)
      | _ => false
    let spent (b : Bool) : Cycle := { s.cyc with decided := s.cyc.decided || b }
    exec (.schCancelAll arg) s = .next
      ({ s with
        sched := { s.sched with entries := s.sched.entries.map cancelled }
        cyc := spent ((List.finRange 32).any dispatches) }.answered 0x72 .ok) ∧
    (31 < arg.toNat →
      exec (.schCancel arg) s = .next (s.answered 0x71 .badIndex) ∧
      exec (.schFree arg) s = .next (s.answered 0x73 .badIndex) ∧
      exec (.schView arg) s = .next (s.answered 0x74 .badIndex)) ∧
    ∀ h : arg.toNat < 32,
      let n : Fin 32 := ⟨arg.toNat, h⟩
      exec (.schCancel arg) s = .next (match s.entry n with
        | .free => s.answered 0x71 .badState
        | .done _ _ _ => s.answered 0x71 .badState
        | e => { put n (cancelled e) with cyc := spent (dispatches n) }.answered 0x71 .ok) ∧
      exec (.schFree arg) s = .next (match s.entry n with
        | .done _ _ _ => (put n .free).answered 0x73 .ok
        | _ => s.answered 0x73 .badState) ∧
      exec (.schView arg) s = .next
        ({ s with sched := { s.sched with view := { index := n, entry := s.entry n } } }.answered 0x74 .ok)

/-! ## Dispatcher -/

/-- SCH_HOLD and SCH_RESUME (R103, R104, R105, R107): HOST joins the hold set; it leaves it, and where GUARD is absent every
entry is then examined against the time that the cycle presents. Where a notice with the sweep indication is still to come in
the cycle, it is taken at once and makes that one sweep: the notice of a load or a jump, or the awaited sample with its
edge-aligned load (R107; log entry 32). -/
def Obligations.HoldAndResume : Prop :=
  ∀ (arg : Byte) (s : State), s.takesBytes = true →
    let b : State := { s with disp := { s.disp with holdHost := false } }
    exec (.schHold arg) s = .next ({ s with disp := { s.disp with holdHost := true } }.answered 0x75 .ok) ∧
    (s.disp.holdHost = false → exec (.schResume arg) s = .next (s.answered 0x76 .badState)) ∧
    (s.disp.holdHost = true → s.disp.holdGuard = true →
      exec (.schResume arg) s = .next (b.answered 0x76 .ok)) ∧
    (s.disp.holdHost = true → s.disp.holdGuard = false →
      (∀ n ∈ s.tb.awaited, s.completesEdge n = true →
        ∃ t, exec (.captureSample n) b = .next t ∧ exec (.schResume arg) s = .next (t.answered 0x76 .ok)) ∧
      ((∀ n ∈ s.tb.awaited, s.completesEdge n = false) →
        ((∃ x ∈ s.cyc.notices, x.sweep = true) →
          exec (.schResume arg) s = .next (b.takeNotices.answered 0x76 .ok)) ∧
        ((∀ x ∈ s.cyc.notices, x.sweep = false) →
          exec (.schResume arg) s = .next ({ b with sched := { s.sched with
            entries := s.sched.entries.map (Entry.treat s.presented.time) } }.answered 0x76 .ok))))

/-- The head of the due queue (R84): the ARMED entry with the earliest due time and, among equal ones, the lowest index; there
is none exactly where no entry is ARMED. -/
def Obligations.DueQueueHeadIsEarliestThenLowest : Prop :=
  ∀ es : Bank Entry 32,
    (dueHead es = none ↔ ∀ i p k late, es.get i ≠ .armed p k late) ∧
    ∀ i, dueHead es = some i ↔
      ∃ p k late, es.get i = .armed p k late ∧
        ∀ j p' k' late', es.get j = .armed p' k' late' →
          p.due.toNat < p'.due.toNat ∨ p.due = p'.due ∧ i ≤ j

/-- DISPATCH withheld (R86, R103): with a reason in the hold set, without a head, or with a head that is not due at the time
that the cycle presents (R2; log entry 7), the decision of the cycle dispatches nothing; and a cycle has one decision. -/
def Obligations.DispatchIsWithheld : Prop :=
  ∀ (order : ActionOrder) (s : State),
    (s.cyc.decided = true → exec (.dispatch order) s = .next s) ∧
    (s.cyc.decided = false →
      (s.disp.holdHost = true ∨ s.disp.holdGuard = true ∨ dueHead s.sched.entries = none ∨
        ∃ i p k late, dueHead s.sched.entries = some i ∧ s.entry i = .armed p k late ∧
          s.presented.time.toNat < p.due.toNat) →
      exec (.dispatch order) s = .next { s with cyc := { s.cyc with decided := true } })

/-- DISPATCH of a head without a link (R86, R87, R88, R90, R91), at the time and in the epoch that the cycle presents (R2; log
entry 7): the action reaches the output lines, or waits for a trip of the same cycle (R122; log entry 6); a ONCE entry is DONE
COMPLETED, a PERIODIC one is set up by `refire`; the FIRE record is offered where notify is yes, FINAL where the entry is DONE
COMPLETED. -/
def Obligations.DispatchFiresTheHead : Prop :=
  ∀ (order : ActionOrder) (s : State) (i : Fin 32) (p : Plan) (k : Kept) (late : Bool),
    let t := s.presented.time
    let k' : Kept := { k with fires := satAdd k.fires 1, lastFire := some t }
    let e : Entry := match p.cadence with
      | .once => .done .completed p k'
      | .periodic period _ => refire t p k' period
    let record : Offer :=
      { time := t, epoch := s.presented.epoch,
        body := .fire i late (!e.isArmed) false (BitVec.ofNat 24 (min (t.toNat - p.due.toNat) 16777215)) }
    s.cyc.decided = false → s.cyc.action = none → s.disp.free = true → s.guard.tripped = false →
    dueHead s.sched.entries = some i → s.entry i = .armed p k late → p.due.toNat ≤ t.toNat → p.link = none →
    exec (.dispatch order) s = .next
      { s with
        outs := match order with
          | .actionFirst => p.deed.act s.outs
          | .afterTrip => s.outs
        sched := { s.sched with entries := s.sched.entries.set i e }
        cyc := { s.cyc with
          decided := true
          action := match order with
            | .actionFirst => none
            | .afterTrip => some p.deed
          offers := if p.notify then insertOffer record s.cyc.offers else s.cyc.offers } }

/-- DISPATCH of a head with a link (R87, R89, R90, R91, R93, R108), at the time and in the epoch that the cycle presents (R2; log
entry 7): a PARKED target is armed with the nominal due time plus the link offset in the epoch in force and is treated at its
arming, and a notice of a step of the cycle that comes after it makes an epoch-bound one DONE STALE (R102), also where DROP has
advanced or skipped it at its arming (log entry 33, DEDUCED); in every other case, and where the sum passes 2^56 − 1, it is a
link miss: SCH_FAULT takes it, SFAULT is raised, and the FIRE record says so. Action (its order against a trip: log entry 6), counts and fate are those of an entry without a
link. -/
def Obligations.DispatchFollowsTheLink : Prop :=
  ∀ (order : ActionOrder) (s : State) (i : Fin 32) (p : Plan) (k : Kept) (late : Bool) (l : Link),
    let t := s.presented.time
    let k' : Kept := { k with fires := satAdd k.fires 1, lastFire := some t }
    let e : Entry := match p.cadence with
      | .once => .done .completed p k'
      | .periodic period _ => refire t p k' period
    let due := p.due.toNat + l.offset.toNat
    let armed (q : Plan) (kq : Kept) : Entry :=
      Entry.treat t (.armed { q with due := BitVec.ofNat 56 due }
        { kq with armedEpoch := some s.presented.epoch } false)
    let missed : Prop := (∀ q kq, s.entry l.entry ≠ .parked q kq) ∨ 2 ^ 56 ≤ due
    let record (miss : Bool) : Offer :=
      { time := t, epoch := s.presented.epoch,
        body := .fire i late (!e.isArmed) miss (BitVec.ofNat 24 (min (t.toNat - p.due.toNat) 16777215)) }
    s.cyc.decided = false → s.cyc.action = none → s.disp.free = true →
    s.guard.tripped = false → dueHead s.sched.entries = some i → s.entry i = .armed p k late →
    p.due.toNat ≤ t.toNat → p.link = some l → l.entry ≠ i →
    ∃ (u : State) (miss : Bool), exec (.dispatch order) s = .next u ∧ (miss = true ↔ missed) ∧ u.entry i = e ∧
      (missed → u.entry l.entry = s.entry l.entry ∧ u.disp = { s.disp with fault := .linkMiss i } ∧
        u.icu = { s.icu with flags := { s.icu.flags with sfault := s.icu.flags.sfault || !s.resetLow } }) ∧
      (¬missed → u.disp = s.disp ∧ u.icu = s.icu ∧
        ∀ q kq, s.entry l.entry = .parked q kq → u.entry l.entry = armed q kq ∧
          (s.NoticeToCome → q.epochBound = true → ∀ ns : List Notice, ns ≠ [] →
            ({ u with cyc := { u.cyc with notices := ns } }.takeNotices : State).entry l.entry = match armed q kq with
              | .armed p k _ => .done .stale p k
              | .done _ p k => .done .stale p k
              | e => e)) ∧
      (∀ m, m ≠ i → m ≠ l.entry → u.entry m = s.entry m) ∧
      u.cyc = { s.cyc with
        decided := true
        action := match order with
          | .actionFirst => none
          | .afterTrip => some p.deed
        earlySkips := if miss then s.cyc.earlySkips else
          s.cyc.earlySkips.set l.entry (decide (s.NoticeToCome) && match u.entry l.entry with
            | .done .skipped q _ => q.epochBound
            | _ => false)
        offers := if p.notify then insertOffer (record miss) s.cyc.offers else s.cyc.offers } ∧
      u.outs = (match order with
        | .actionFirst => p.deed.act s.outs
        | .afterTrip => s.outs) ∧
      u.sched.staging = s.sched.staging ∧ u.sched.view = s.sched.view ∧ u.tb = s.tb ∧ u.cap = s.cap ∧
      u.trq = s.trq ∧ u.guard = s.guard ∧ u.sp = s.sp ∧ u.pins = s.pins

/-- A fired PERIODIC entry (R92), `k` being its counts with the fire already counted: with K the smallest whole number from 1
upward for which d + K·p lies above t, the K − 1 occurrences passed over are charged as skips, as far as the limit reaches,
and the entry is armed again with due time d + K·p while occurrences are left and that due time can be named; else it is
DONE COMPLETED at the last occurrence fired or charged. -/
def Obligations.PeriodicEntryIsSetUpAfterAFire : Prop :=
  ∀ (t : Ticks) (p : Plan) (k : Kept) (period : Span) (K : Nat),
    let d := p.due.toNat
    let at_ (n : Nat) : Plan := { p with due := BitVec.ofNat 56 (d + n * period.toNat) }
    256 ≤ period.toNat → d ≤ t.toNat → 1 ≤ K → t.toNat < d + K * period.toNat →
    (∀ j, 1 ≤ j → j < K → d + j * period.toNat ≤ t.toNat) →
    (k.remaining = none →
      let k' : Kept := { k with skips := satAdd k.skips (K - 1) }
      refire t p k period =
        if d + K * period.toNat < 2 ^ 56 then .armed (at_ K) k' false else .done .completed (at_ (K - 1)) k') ∧
    ∀ r : Count, k.remaining = some r → 1 ≤ r.toNat →
      let charged := min (K - 1) (r.toNat - 1)
      let k' : Kept :=
        { k with skips := satAdd k.skips charged, remaining := some (BitVec.ofNat 16 (r.toNat - 1 - charged)) }
      refire t p k period =
        if K < r.toNat ∧ d + K * period.toNat < 2 ^ 56 then .armed (at_ K) k' false
        else .done .completed (at_ charged) k'

/-- The examination of an entry against a time (R95 to R98). Only an ARMED entry without a late mark whose due time is at or
below the time is overdue; FIRE_LATE marks it; DROP makes a ONCE entry DONE SKIPPED with one more skip, and passes over the
K occurrences of a PERIODIC entry at or below the time, as far as the limit reaches, with K as in R98. -/
def Obligations.OverdueEntryIsTreatedByItsPolicy : Prop :=
  ∀ (t : Ticks) (p : Plan) (k : Kept) (K : Nat) (period : Span),
    let d := p.due.toNat
    let at_ (n : Nat) : Plan := { p with due := BitVec.ofNat 56 (d + n * period.toNat) }
    (t.toNat < d → Entry.treat t (.armed p k false) = .armed p k false) ∧
    Entry.treat t (.armed p k true) = .armed p k true ∧ Entry.treat t (.parked p k) = .parked p k ∧
    (∀ f, Entry.treat t (.done f p k) = .done f p k) ∧
    (d ≤ t.toNat → p.late = .fireLate → Entry.treat t (.armed p k false) = .armed p k true) ∧
    (d ≤ t.toNat → p.late = .drop → p.cadence = .once →
      Entry.treat t (.armed p k false) = .done .skipped p { k with skips := satAdd k.skips 1 }) ∧
    (d ≤ t.toNat → p.late = .drop → p.cadence.period = some period → 256 ≤ period.toNat → 1 ≤ K →
      t.toNat < d + K * period.toNat → (∀ j, 1 ≤ j → j < K → d + j * period.toNat ≤ t.toNat) →
      (k.remaining = none →
        let k' : Kept := { k with skips := satAdd k.skips K }
        Entry.treat t (.armed p k false) =
          if d + K * period.toNat < 2 ^ 56 then .armed (at_ K) k' false else .done .skipped (at_ (K - 1)) k') ∧
      ∀ r : Count, k.remaining = some r → 1 ≤ r.toNat →
        let charged := min K r.toNat
        let k' : Kept :=
          { k with skips := satAdd k.skips charged, remaining := some (BitVec.ofNat 16 (r.toNat - charged)) }
        Entry.treat t (.armed p k false) =
          if K < r.toNat ∧ d + K * period.toNat < 2 ^ 56 then .armed (at_ K) k' false
          else .done .skipped (at_ (charged - 1)) k')

/-! ## Output lines -/

/-- SET, CLEAR, TOGGLE and PULSE at the line they name (R116, R117, R118); NONE moves no line; no other line moves. -/
def Obligations.ActionsMoveTheirLine : Prop :=
  ∀ (outs : Bank OutLine 8) (n m : Fin 8) (w : BitVec 24),
    let l := outs.get m
    Deed.act .none outs = outs ∧
    (Deed.act (.set n) outs).get m = (if m = n then { l with level := .high, pulse := none } else l) ∧
    (Deed.act (.clear n) outs).get m = (if m = n then { l with level := .low, pulse := none } else l) ∧
    (Deed.act (.toggle n) outs).get m =
      (if m = n then { l with level := l.level.inverse, pulse := none } else l) ∧
    (Deed.act (.pulse n w) outs).get m =
      if m = n then { l with level := l.idle.inverse,
                             pulse := some { remaining := w, active := l.idle.inverse } } else l

/-- The width of a pulse (R119): started with width w, it holds the line at its active level for w cycles, and in the cycle in
which its count reaches 0 the line goes to its idle level without a pulse. PULSE_END takes that end. -/
def Obligations.PulseLastsItsWidth : Prop :=
  (∀ (l : OutLine) (w : BitVec 24) (j : Nat), 1 ≤ w.toNat → j ≤ w.toNat →
    (fun x : OutLine => x.tick.endPulse)^[j] (l.startPulse w) =
      if j < w.toNat then
        { l with level := l.idle.inverse,
                 pulse := some { remaining := BitVec.ofNat 24 (w.toNat - j), active := l.idle.inverse } }
      else { l with level := l.idle, pulse := none }) ∧
  ∀ (n : Fin 8) (s : State) (p : Pulse), (s.outs.get n).pulse = some p → p.remaining = 0 →
    exec (.pulseEnd n) s = .next
      { s with outs := s.outs.set n { s.outs.get n with level := (s.outs.get n).idle, pulse := none } }

/-- OUT_SET and OUT_CLEAR (R121): refused with BAD_INDEX above line 7 and with GUARD_ACTIVE while tripped; else the level is set
and a pulse in flight is cancelled, whatever the mode and the hold set. -/
def Obligations.ForceCommandsSetTheLine : Prop :=
  ∀ (arg : Byte) (s : State), s.takesBytes = true →
    let forced (n : Fin 8) (v : Level) : State :=
      { s with outs := s.outs.set n { s.outs.get n with level := v, pulse := none } }
    (7 < arg.toNat →
      exec (.outSet arg) s = .next (s.answered 0x77 .badIndex) ∧
      exec (.outClear arg) s = .next (s.answered 0x78 .badIndex)) ∧
    ∀ h : arg.toNat < 8,
      let n : Fin 8 := ⟨arg.toNat, h⟩
      (s.guard.tripped = true →
        exec (.outSet arg) s = .next (s.answered 0x77 .guardActive) ∧
        exec (.outClear arg) s = .next (s.answered 0x78 .guardActive)) ∧
      (s.guard.tripped = false →
        exec (.outSet arg) s = .next ((forced n .high).answered 0x77 .ok) ∧
        exec (.outClear arg) s = .next ((forced n .low).answered 0x78 .ok))

/-- Writes of mode and idle level (R113, R114): they leave level and pulse, whatever the guard unit does, and a byte written at
the address of four lines writes both fields of the four (R175, R180). -/
def Obligations.ModeAndIdleWritesKeepTheLevel : Prop :=
  ∀ (n : Fin 8) (m : Mode) (v : Level) (s : State), s.takesBytes = true →
    let addr : Addr := if n.val < 4 then 0x08 else 0x09
    let put (l : OutLine) : State := { s with outs := s.outs.set n l }
    exec (.modeWrite n m) s = .next ((put { s.outs.get n with mode := m }).past 2 addr) ∧
    exec (.idleLevelWrite n v) s = .next ((put { s.outs.get n with idle := v }).past 2 addr) ∧
    ∀ data : Byte, s.sp.page = 2 → ∃ t, exec (.registerWrite addr data) s = .next t ∧
      t.outs.get n =
        { s.outs.get n with
          mode := if data.getLsbD (2 * (n.val % 4)) then .driven else .off
          idle := if data.getLsbD (2 * (n.val % 4) + 1) then .high else .low }

/-! ## Time record queue -/

/-- One offer (R127, R130, R132, R133, R134): it takes the next sequence number whatever becomes of it; it joins the tail of a
queue with fewer than 32 records; a full queue drops the head for it under KEEP_NEWEST, the tail for a GUARD record under
KEEP_OLDEST, and else the offer itself; each of these losses raises QLOSS, which is not kept while RESET_N is low (R145,
R169). -/
def Obligations.OfferIsNumberedAndStoredOrLost : Prop :=
  ∀ (o : Offer) (s : State),
    let q := s.trq
    let record : Record := { seq := q.nextSeq, offer := o }
    s.takeOffer o =
      { s with
        trq := { q with
          nextSeq := q.nextSeq + 1
          records :=
            if q.records.length < 32 then q.records ++ [record]
            else match q.policy, o.body with
              | .keepNewest, _ => q.records.drop 1 ++ [record]
              | .keepOldest, .guard _ _ => q.records.take (q.records.length - 1) ++ [record]
              | .keepOldest, _ => q.records }
        icu := { s.icu with flags :=
          { s.icu.flags with
            qloss := s.icu.flags.qloss || (decide (32 ≤ q.records.length) && !s.resetLow) } } }

/-- The entry port (R131): offers wait in the order GUARD by line, STEP as offered, EDGE by line, FIRE. A new offer takes its
place behind those of its own rank, and none is lost; at the end of the cycle they are taken in that order. What is taken
earlier, before a command that reaches the queue (log entry 8), is the offers below `settledRank`, in that order, and no
event still to come in the cycle offers below that rank. -/
def Obligations.PortKeepsItsOrder : Prop :=
  ∀ (o : Offer) (os : List Offer) (s : State),
    let rank (x : Offer) : Nat := match x.body with
      | .guard n _ => n.val
      | .step _ _ _ => 2
      | .edge n _ _ _ _ => 3 + n.val
      | .fire _ _ _ _ _ => 9
    (os.Pairwise (fun x y => rank x ≤ rank y) →
      (insertOffer o os).Pairwise (fun x y => rank x ≤ rank y) ∧ (insertOffer o os).Perm (o :: os) ∧
      (insertOffer o os).filter (fun x => decide (rank x = rank o)) =
        os.filter (fun x => decide (rank x = rank o)) ++ [o]) ∧
    (s.cyc.offers = os →
      s.drainAll = os.foldl State.takeOffer { s with cyc := { s.cyc with offers := [] } } ∧
      s.drainReady = (os.filter fun x => decide (rank x < s.settledRank)).foldl State.takeOffer
        { s with cyc := { s.cyc with offers := os.filter fun x => !decide (rank x < s.settledRank) } }) ∧
    (∀ (c : Instr) (t : State),
      (c = .guardSample ∨ c = .wrap ∨ (∃ n, c = .captureSample n) ∨ ∃ order, c = .dispatch order) →
      exec c s = .next t → ∀ x ∈ t.cyc.offers, x ∈ s.cyc.offers ∨ s.settledRank ≤ rank x) ∧
    ∀ x ∈ s.offerSlewEnd.cyc.offers, x ∈ s.cyc.offers ∨ s.settledRank ≤ rank x

/-- Q_POP and Q_FLUSH (R139, R143), after the offers taken before them in the cycle (R140; log entry 8): the head, or every
record, is removed without loss; numbering and configuration stay; Q_POP on an empty queue is refused with Q_EMPTY. -/
def Obligations.PopAndFlushRemoveRecords : Prop :=
  ∀ (arg : Byte) (s : State), s.takesBytes = true →
    let b := s.drainReady
    exec (.qPop arg) s = .next (
      if b.trq.records = [] then b.answered 0x79 .qEmpty
      else { b with trq := { b.trq with records := b.trq.records.drop 1 } }.answered 0x79 .ok) ∧
    exec (.qFlush arg) s = .next ({ b with trq := { b.trq with records := [] } }.answered 0x7A .ok)

/-- TRANSACTION_END (R141, R142, R170, R177): a read of the head window that latched a record and read its last byte whole
removes the head where auto-pop is on and the head still has the latched number, after the offers taken before it in the cycle
(log entry 8); every other end removes nothing. -/
def Obligations.TransactionEndMakesTheAutoPop : Prop :=
  ∀ s : State,
    let closed (b : State) : State := { b with sp := { b.sp with tx := .idle, fetchDue := false } }
    ((∀ p copy last, s.sp.tx ≠ .reading p (.head copy last)) → exec .transactionEnd s = .next (closed s)) ∧
    ∀ pointer copy last, s.sp.tx = .reading pointer (.head copy last) →
      let b := s.drainReady
      exec .transactionEnd s = .next (match copy, b.trq.records with
        | some r, head :: rest =>
          if b.trq.autoPop = true ∧ last = true ∧ r.seq = head.seq then
            closed { b with trq := { b.trq with records := rest } }
          else closed b
        | _, _ => closed b)

/-! ## Guard unit -/

/-- GUARD_SAMPLE (R148, R149): in a guard sample cycle each enabled line, whose sample is due, moves by the table of R149, judged
by the terms that stood as the cycle began (R151); a disabled line does not. A count at or above n completes the passage (log
entry 35, DEDUCED). Where no line passes to ACTIVE nothing else changes, but that an action which was to come after a trip of
this cycle is taken, or discarded where the unit is tripped (R88, R122; log entry 6). -/
def Obligations.GuardSampleMovesTheLines : Prop :=
  ∀ s : State,
    let next (n : Fin 2) : GuardState :=
      let l := s.guard.lines.get n
      match l.due with
      | none => l.state
      | some terms =>
        let q := terms.qual.toNat
        match l.state, decide (Level.ofBool (s.pins.sampled.grd.getLsbD n.val) = terms.activeLevel) with
        | .inactive, false => .inactive
        | .inactive, true => if q = 1 then .active else .toActive 1
        | .toActive c, true => if q ≤ c + 1 then .active else .toActive (c + 1)
        | .toActive _, false => .inactive
        | .active, true => .active
        | .active, false => if q = 1 then .inactive else .toInactive 1
        | .toInactive c, false => if q ≤ c + 1 then .inactive else .toInactive (c + 1)
        | .toInactive _, true => .active
    (∃ n, (s.guard.lines.get n).due ≠ none) → (∀ n, (s.guard.lines.get n).Ok) →
    ∃ t, exec .guardSample s = .next t ∧
      (∀ n, t.guard.lines.get n = { s.guard.lines.get n with state := next n, due := none }) ∧
      t.guard.safe = s.guard.safe ∧ t.guard.clock = s.guard.clock ∧
      t.tb = s.tb ∧ t.cap = s.cap ∧ t.sched = s.sched ∧ t.trq = s.trq ∧ t.sp = s.sp ∧ t.pins = s.pins ∧
      ((∀ n, next n = .active → (s.guard.lines.get n).state = .active ∨
          ∃ c, (s.guard.lines.get n).state = .toInactive c) →
        t.guard.tripped = s.guard.tripped ∧ t.disp = s.disp ∧ t.icu = s.icu ∧
        t.cyc = { s.cyc with action := none } ∧
        t.outs = match s.cyc.action with
          | none => s.outs
          | some d => if s.guard.tripped then s.outs else d.act s.outs)

/-- Activations (R129, R152, R153, R122), of one guard line or of both in one guard sample cycle: each line that passes to ACTIVE
offers its GUARD record with the time and the epoch that the cycle presents (R2; log entry 7) and raises GTRIP, which is not
kept while RESET_N is low (R159, R169); where the unit is untripped it trips once: every pulse is cancelled, every output line
goes to its safe level or keeps its level for KEEP, its mode stays, and GUARD joins the hold set. An action that was to come
after the trip is discarded (R122). A count at or above n completes the passage (log entry 35, DEDUCED). -/
def Obligations.ActivationTripsTheUnit : Prop :=
  ∀ s : State,
    let activates (n : Fin 2) : Bool :=
      match (s.guard.lines.get n).due with
      | none => false
      | some terms =>
        decide (Level.ofBool (s.pins.sampled.grd.getLsbD n.val) = terms.activeLevel) &&
        match (s.guard.lines.get n).state with
        | .inactive => decide (terms.qual.toNat ≤ 1)
        | .toActive c => decide (terms.qual.toNat ≤ c + 1)
        | _ => false
    let put (n : Fin 2) (os : List Offer) : List Offer :=
      if activates n then
        insertOffer { time := s.presented.time, epoch := s.presented.epoch, body := .guard n s.cyc.frozen } os
      else os
    (∃ n, activates n = true) →
    ∃ t, exec .guardSample s = .next t ∧
      (∀ n, activates n = true → (t.guard.lines.get n).state = .active) ∧ t.guard.tripped = true ∧
      t.icu = { s.icu with flags := { s.icu.flags with gtrip := s.icu.flags.gtrip || !s.resetLow } } ∧
      t.cyc = { s.cyc with action := none, offers := put 1 (put 0 s.cyc.offers) } ∧
      (s.guard.tripped = true → t.outs = s.outs ∧ t.disp = s.disp) ∧
      (s.guard.tripped = false → t.disp = { s.disp with holdGuard := true } ∧
        ∀ i, t.outs.get i =
          { s.outs.get i with
            pulse := none
            level := match s.guard.safe.get i with
              | .low => .low
              | .high => .high
              | .keep => (s.outs.get i).level }) ∧
      t.tb = s.tb ∧ t.cap = s.cap ∧ t.sched = s.sched ∧ t.trq = s.trq ∧ t.sp = s.sp

/-- Writes of a guard line's byte and of the safe levels (R147, R150, R151, R154; R175). Enable, active level and n lie in one
byte: a line that is enabled before and after keeps INACTIVE or ACTIVE and abandons a run, and a sample of this cycle that is
still to be taken keeps its terms; every other line is INACTIVE and takes no sample of this cycle; n of 0 is stored as 1; trip
state, hold set and outputs are not reached. The safe-level table takes no write while tripped. -/
def Obligations.GuardAndSafeLevelWrites : Prop :=
  ∀ (n : Fin 2) (active : Level) (q : BitVec 4) (half : Fin 2) (data : Byte) (s : State), s.takesBytes = true →
    let l := s.guard.lines.get n
    let line (on : Bool) : GuardLine :=
      { enabled := on, activeLevel := active, qual := if q = 0 then 1 else q,
        due := if l.enabled = true ∧ on = true then l.due else none,
        state := if l.enabled = true ∧ on = true then
            (match l.state with
              | .inactive => .inactive
              | .toActive _ => .inactive
              | .active => .active
              | .toInactive _ => .active)
          else .inactive }
    let put (x : GuardLine) : State := { s with guard := { s.guard with lines := s.guard.lines.set n x } }
    let addr : Addr := if n.val = 0 then 0x0A else 0x0B
    let code (i : Fin 8) : Nat := data.toNat / 4 ^ (i.val % 4) % 4
    exec (.guardEnable n active q) s = .next ((put (line true)).past 2 addr) ∧
    exec (.guardDisable n active q) s = .next ((put (line false)).past 2 addr) ∧
    exec (.guardReconfig n active q) s = .next ((put (line l.enabled)).past 2 addr) ∧
    (s.guard.tripped = true →
      exec (.safeLevelWrite half data) s = .next (s.past 2 (if half = 0 then 0x0C else 0x0D))) ∧
    (s.guard.tripped = false → ∃ safe,
      exec (.safeLevelWrite half data) s =
        .next ({ s with guard := { s.guard with safe := safe } }.past 2 (if half = 0 then 0x0C else 0x0D)) ∧
      ∀ i : Fin 8, safe.get i =
        if i.val / 4 = half.val then
          (if code i = 0 then .low else if code i = 1 then .high else if code i = 2 then .keep
            else s.guard.safe.get i)
        else s.guard.safe.get i)

/-- GRD_RELEASE (R155, R106, R107): refused with BAD_STATE while untripped and with GUARD_ACTIVE while an enabled line is not
INACTIVE; else the unit is untripped, GUARD leaves the hold set, and where HOST is absent every entry is examined against the
time that the cycle presents; the outputs and GTRIP are not reached. Where a notice with the sweep indication is still to come
in the cycle, it is taken at once and makes that one sweep, as for SCH_RESUME (`HoldAndResume`; log entry 32). -/
def Obligations.ReleaseNeedsQuietLines : Prop :=
  ∀ (arg : Byte) (s : State), s.takesBytes = true →
    let b : State :=
      { s with guard := { s.guard with tripped := false }, disp := { s.disp with holdGuard := false } }
    (s.guard.tripped = false → exec (.grdRelease arg) s = .next (s.answered 0x7B .badState)) ∧
    (s.guard.tripped = true →
      ((∃ n, (s.guard.lines.get n).enabled = true ∧ (s.guard.lines.get n).state ≠ .inactive) →
        exec (.grdRelease arg) s = .next (s.answered 0x7B .guardActive)) ∧
      ((∀ n, (s.guard.lines.get n).enabled = true → (s.guard.lines.get n).state = .inactive) →
        (s.disp.holdHost = true → exec (.grdRelease arg) s = .next (b.answered 0x7B .ok)) ∧
        (s.disp.holdHost = false →
          (∀ n ∈ s.tb.awaited, s.completesEdge n = true →
            ∃ t, exec (.captureSample n) b = .next t ∧ exec (.grdRelease arg) s = .next (t.answered 0x7B .ok)) ∧
          ((∀ n ∈ s.tb.awaited, s.completesEdge n = false) →
            ((∃ x ∈ s.cyc.notices, x.sweep = true) →
              exec (.grdRelease arg) s = .next (b.takeNotices.answered 0x7B .ok)) ∧
            ((∀ x ∈ s.cyc.notices, x.sweep = false) →
              exec (.grdRelease arg) s = .next ({ b with sched := { s.sched with
                entries := s.sched.entries.map (Entry.treat s.presented.time) } }.answered 0x7B .ok))))))

/-! ## Registers and the serial port -/

/-- PENDING_CLEAR and ENABLE_WRITE (R163, R164): a one clears its latched flag and a zero leaves it; QLEVEL, which is the count
at or above the threshold (R136), takes no write; the enables are replaced; a read shows flags and enables in their bits. That
bits 7:6 of the enables read 0 is log entry 16 (DEDUCED), and the offers taken before PENDING_CLEAR are log entry 8
(DEDUCED). -/
def Obligations.PendingAndEnableRegisters : Prop :=
  ∀ (data : Byte) (s : State), s.takesBytes = true →
    let b := s.drainReady
    let f := b.icu.flags
    exec (.pendingClear data) s = .next (State.stepWrite 0x7E { b with icu := { b.icu with flags :=
      { qloss := f.qloss && !data.getLsbD 1, sfault := f.sfault && !data.getLsbD 2,
        gtrip := f.gtrip && !data.getLsbD 3, tbevt := f.tbevt && !data.getLsbD 4,
        cmderr := f.cmderr && !data.getLsbD 5 } } }) ∧
    exec (.enableWrite data) s =
      .next (State.stepWrite 0x7F { s with icu := { s.icu with enables := data.extractLsb' 0 6 } }) ∧
    s.readLive 0x7F = s.icu.enables.setWidth 8 ∧
    ((s.readLive 0x7E).getLsbD 0 = true ↔ s.trq.threshold.toNat ≤ s.trq.records.length) ∧
    (s.readLive 0x7E).getLsbD 1 = s.icu.flags.qloss ∧ (s.readLive 0x7E).getLsbD 2 = s.icu.flags.sfault ∧
    (s.readLive 0x7E).getLsbD 3 = s.icu.flags.gtrip ∧ (s.readLive 0x7E).getLsbD 4 = s.icu.flags.tbevt ∧
    (s.readLive 0x7E).getLsbD 5 = s.icu.flags.cmderr

/-- TRIM_WRITE, SLEW_RATE_WRITE, QUEUE_CONFIG_WRITE and PAGE_SELECT_WRITE (R10, R14, R135, R173): what each stores. That the
written sign survives a magnitude of 0 is log entry 11, that the fourth W code still sets trim-change-pending is log entry 12,
and the offers taken before QUEUE_CONFIG_WRITE are log entry 8 (all DEDUCED). -/
def Obligations.ConfigurationRegisterWrites : Prop :=
  ∀ (data : Byte) (s : State), s.takesBytes = true →
    let b := s.drainReady
    let t := data.toNat % 64
    let trim (x : Trim) : State := { s with tb := { s.tb with written := x, trimPending := true } }
    exec (.trimWrite .signHigh data) s = .next ((trim { s.tb.written with
      negative := data.getLsbD 7
      magnitude := data.extractLsb' 0 4 ++ s.tb.written.magnitude.extractLsb' 0 8 }).past 2 0x0E) ∧
    exec (.trimWrite .low data) s = .next ((trim { s.tb.written with
      magnitude := s.tb.written.magnitude.extractLsb' 8 4 ++ data }).past 2 0x0F) ∧
    exec (.trimWrite .window data) s = .next ((trim { s.tb.written with
      window := if data.toNat % 4 = 0 then .one else if data.toNat % 4 = 1 then .eight
        else if data.toNat % 4 = 2 then .sixtyFour else s.tb.written.window }).past 2 0x10) ∧
    exec (.slewRateWrite data) s = .next ({ s with tb := { s.tb with
      rate := if data.toNat < 4 then 4 else if 16 < data.toNat then 16 else data.setWidth 5 } }.past 2 0x11) ∧
    exec (.queueConfigWrite data) s = .next ({ b with trq := { b.trq with
      threshold := if t = 0 then 1 else if 32 < t then 32 else BitVec.ofNat 6 t
      policy := if data.getLsbD 6 then .keepNewest else .keepOldest
      autoPop := data.getLsbD 7 } }.past 2 0x12) ∧
    exec (.pageSelectWrite data) s = .next (
      if h : data.toNat < 3 then State.stepWrite 0x7D { s with sp := { s.sp with page := ⟨data.toNat, h⟩ } }
      else State.stepWrite 0x7D s)

/-- REGISTER_WRITE to the staging record (R9, R65, R175) and the read of it (R180): after byte i is written, byte i reads as
written, but that an action code that names none leaves the action as it was; every other byte reads as before, the block is
otherwise unchanged, and the pointer steps. Which field stands at which offset is in `ReadDataByteStepsThePointer`. -/
def Obligations.StagingRecordReadsAsWritten : Prop :=
  ∀ (i j : Nat) (data : Byte) (s : State), s.takesBytes = true → i < 32 → j < 32 →
    let at_ (x : Nat) : Addr := BitVec.ofNat 7 (0x48 + x)
    ∃ t, exec (.registerWrite (at_ i) data) s = .next t ∧
      t = State.stepWrite (at_ i) { s with
        sched := { s.sched with staging := t.sched.staging }
        tb := { s.tb with staged := t.tb.staged } } ∧
      ((i = 0 → data.toNat / 4 % 8 ≤ 4) → t.readLive (at_ i) = data) ∧
      (i = 0 → 4 < data.toNat / 4 % 8 → ∀ k, k < 8 → (t.readLive (at_ 0)).getLsbD k =
        if 2 ≤ k ∧ k ≤ 4 then (s.readLive (at_ 0)).getLsbD k else data.getLsbD k) ∧
      (j ≠ i → t.readLive (at_ j) = s.readLive (at_ j))

/-- A data byte at an address is the command of that address with the byte as argument (R171, R173, R174, R175, R180): at a
strobe, in page 1, in page 2 and from 0x7D on. For TB_LOAD, TB_JUMP and SOFT_RESET, REGISTER_WRITE shows one of the two orders
of their rows alone: the notice first and the offers first, log entry 6 (DESIGN CHOICE). At a read-only or unmapped address
the byte changes nothing but the pointer. -/
def Obligations.StrobeBytesIssueTheirCommands : Prop :=
  ∀ (arg : Byte) (s : State),
    (exec (.registerWrite 0x68 arg) s = exec (.tbStart arg) s ∧
      exec (.registerWrite 0x69 arg) s = exec (.tbStop arg) s ∧
      exec (.registerWrite 0x6A arg) s = exec (.tbLoad arg .noticeFirst) s ∧
      exec (.registerWrite 0x6B arg) s = exec (.tbJump arg .noticeFirst) s ∧
      exec (.registerWrite 0x6C arg) s = exec (.tbSlew arg) s ∧
      exec (.registerWrite 0x6D arg) s = exec (.tbLoadEdge arg) s ∧
      exec (.registerWrite 0x6E arg) s = exec (.tbCancelEdge arg) s ∧
      exec (.registerWrite 0x6F arg) s = exec (.schArm arg) s ∧
      exec (.registerWrite 0x70 arg) s = exec (.schPark arg) s ∧
      exec (.registerWrite 0x71 arg) s = exec (.schCancel arg) s ∧
      exec (.registerWrite 0x72 arg) s = exec (.schCancelAll arg) s ∧
      exec (.registerWrite 0x73 arg) s = exec (.schFree arg) s ∧
      exec (.registerWrite 0x74 arg) s = exec (.schView arg) s ∧
      exec (.registerWrite 0x75 arg) s = exec (.schHold arg) s ∧
      exec (.registerWrite 0x76 arg) s = exec (.schResume arg) s ∧
      exec (.registerWrite 0x77 arg) s = exec (.outSet arg) s ∧
      exec (.registerWrite 0x78 arg) s = exec (.outClear arg) s ∧
      exec (.registerWrite 0x79 arg) s = exec (.qPop arg) s ∧
      exec (.registerWrite 0x7A arg) s = exec (.qFlush arg) s ∧
      exec (.registerWrite 0x7B arg) s = exec (.grdRelease arg) s ∧
      exec (.registerWrite 0x7C arg) s = exec (.softReset ⟨arg, .offersFirst⟩) s) ∧
    (s.sp.page = 1 → ∀ n : Fin 6,
      let at_ (i : Nat) : Addr := BitVec.ofNat 7 (0x08 + 7 * n.val + i)
      let d := arg.extractLsb' 1 3
      let q := arg.extractLsb' 4 3
      exec (.registerWrite (at_ 0) arg) s =
        (if arg.getLsbD 0 then exec (.captureEnable n d q) s else exec (.captureDisable n d q) s) ∧
      exec (.registerWrite (at_ 1) arg) s = exec (.captureConfigWrite n .edgesLog arg) s ∧
      exec (.registerWrite (at_ 2) arg) s = exec (.captureConfigWrite n .target arg) s ∧
      exec (.registerWrite (at_ 3) arg) s = exec (.captureConfigWrite n .offsetSeconds arg) s ∧
      exec (.registerWrite (at_ 4) arg) s = exec (.captureConfigWrite n .offsetHigh arg) s ∧
      exec (.registerWrite (at_ 5) arg) s = exec (.captureConfigWrite n .offsetMid arg) s ∧
      exec (.registerWrite (at_ 6) arg) s = exec (.captureConfigWrite n .offsetLow arg) s) ∧
    (s.sp.page = 2 →
      (∀ n : Fin 2,
        let active : Level := if arg.getLsbD 1 then .high else .low
        let q := arg.extractLsb' 4 4
        exec (.registerWrite (BitVec.ofNat 7 (0x0A + n.val)) arg) s =
          (if arg.getLsbD 0 then exec (.guardEnable n active q) s else exec (.guardDisable n active q) s) ∧
        exec (.registerWrite (BitVec.ofNat 7 (0x0C + n.val)) arg) s = exec (.safeLevelWrite n arg) s) ∧
      exec (.registerWrite 0x0E arg) s = exec (.trimWrite .signHigh arg) s ∧
      exec (.registerWrite 0x0F arg) s = exec (.trimWrite .low arg) s ∧
      exec (.registerWrite 0x10 arg) s = exec (.trimWrite .window arg) s ∧
      exec (.registerWrite 0x11 arg) s = exec (.slewRateWrite arg) s ∧
      exec (.registerWrite 0x12 arg) s = exec (.queueConfigWrite arg) s) ∧
    exec (.registerWrite 0x7D arg) s = exec (.pageSelectWrite arg) s ∧
    exec (.registerWrite 0x7E arg) s = exec (.pendingClear arg) s ∧
    exec (.registerWrite 0x7F arg) s = exec (.enableWrite arg) s ∧
    ∀ addr : Addr, ignoresWrites s.sp.page addr → s.takesBytes = true →
      exec (.registerWrite addr arg) s = .next (s.stepWrite addr)

/-- ADDRESS_BYTE, TIME_SNAPSHOT and HEAD_LATCH (R138, R170, R171, R176, R177): without a transaction, and with CS_N low before
the address byte, the byte opens a write, or a read whose bytes are live, come from a snapshot of the time, epoch and TB
status that the cycle presents (log entry 7), or from a copy of the head as the offers taken before it leave it (log entry
8). In an open transaction the byte runs on as its data byte (R170; log entry 17, DEDUCED), and while CS_N is ignored it is
not taken (R178). -/
def Obligations.AddressByteOpensTheTransaction : Prop :=
  ∀ s : State, s.resetLow = false →
    let d := s.drainReady
    let command (x : Byte) (c : Instr) : Prop :=
      c = .addressByte x ∨ (∃ o, c = .timeSnapshot o ∧ x = 0x80 ||| o.setWidth 8) ∨
        ∃ o, c = .headLatch o ∧ x = 0xB8 + o.setWidth 8
    (s.sp.tx = .idle ∨ s.sp.tx = .addressing →
      (∀ x : Byte, x.getLsbD 7 = false →
        exec (.addressByte x) s = .next { s with sp := { s.sp with tx := .writing (x.setWidth 7) } }) ∧
      (∀ x : Byte, x.getLsbD 7 = true → (Instr.addressByte x).wf = true →
        exec (.addressByte x) s = .next
          { s with sp := { s.sp with tx := .reading (x.setWidth 7) .live, fetchDue := true } }) ∧
      (∀ o : BitVec 3, exec (.timeSnapshot o) s = .next { s with sp := { s.sp with
        tx := .reading (o.setWidth 7) .snapshot
        fetchDue := true
        snapshot := { time := s.presented.time, epoch := s.presented.epoch, status := s.presented.status } } }) ∧
      ∀ o : BitVec 4, exec (.headLatch o) s = .next { d with sp := { s.sp with
        tx := .reading (0x38 + o.setWidth 7) (.head d.trq.records.head? false)
        fetchDue := true } }) ∧
    ∀ (x : Byte) (c : Instr), command x c →
      (∀ p, s.sp.tx = .writing p → exec c s = exec (.registerWrite p x) s) ∧
      (∀ p src, s.sp.tx = .reading p src → exec c s = exec .readDataByte s) ∧
      (s.sp.tx = .ignored → exec c s = .next s)

/-- READ_DATA_BYTE and the address pointer (R171, R172, R177): the byte fetched at the end of the cycle of the byte before it is
shifted out, the next fetch falls due, the pointer steps by its region's rule, and a head latch notes the byte at 0x47. A
fetch takes the byte of the latch, or the live one, and a live one shows what the layouts say (R18, R57, R80, R85, R108,
R123, R129, R137, R157, R163, R164, R173, R180; bits that the layouts do not name: log entry 16). -/
def Obligations.ReadDataByteStepsThePointer : Prop :=
  (∀ (s : State) (p : Addr) (src : Source), s.resetLow = false → s.sp.tx = .reading p src → s.sp.fetchDue = false →
    exec .readDataByte s = .next { s with sp := { s.sp with
      read := s.sp.shift
      fetchDue := true
      tx := .reading (nextAddr s.sp.page p) (match src with
        | .head copy last => .head copy (last || decide (p = 0x47))
        | src => src) } }) ∧
  (∀ (s : State) (p : Addr) (src : Source), s.sp.tx = .reading p src → s.sp.fetchDue = true →
    (s.fetch).sp.fetchDue = false ∧
    match src with
    | .live => (s.fetch).sp.shift = s.readLive p
    | .snapshot => p.toNat < 8 →
      (s.fetch).sp.shift =
        if p.toNat = 7 then s.sp.snapshot.epoch
        else BitVec.ofNat 8 (s.sp.snapshot.time.toNat / 256 ^ (6 - p.toNat))
    | .head copy _ => ∃ f : Nat → Byte, ShowsRecord f copy ∧
      (0x38 ≤ p.toNat → p.toNat < 0x48 → (s.fetch).sp.shift = f (p.toNat - 0x38))) ∧
  (∀ s : State, s.WindowShows) ∧
  ∀ (page : Fin 3) (p : Addr),
    (nextAddr page p).toNat =
      if p.toNat < 0x08 then (p.toNat + 1) % 8
      else if p.toNat < 0x38 then (if page = 0 then 8 + (p.toNat - 8 + 1) % 48 else p.toNat + 1)
      else if p.toNat < 0x48 then 0x38 + (p.toNat - 0x38 + 1) % 16
      else if p.toNat < 0x68 then 0x48 + (p.toNat - 0x48 + 1) % 32
      else if p.toNat < 0x7D then p.toNat
      else (p.toNat + 1) % 128

/-! ## What every step keeps -/

/-- R153, R122, R147, R149, R151: the guard unit's protection. GUARD is in the hold set exactly while the unit is tripped, and
while it is tripped no pulse is in flight and every output line with a definite safe level stands at it; and the guard lines
are in range. -/
def Obligations.StepKeepsTheGuardProtection : Prop :=
  ∀ s t : State, s.GuardOk → step s = .next t → t.GuardOk

/-- R150, R153, R155: the unit leaves its tripped state by GRD_RELEASE, by its strobe byte (which a byte that runs on in a write
transaction at its address is too: log entry 17, DEDUCED), and by power-on reset (section 8.9) alone. -/
def Obligations.OnlyReleaseUntripsTheUnit : Prop :=
  ∀ (c : Instr) (s t : State), exec c s = .next t → s.guard.tripped = true → t.guard.tripped = false →
    (∃ arg, c = .grdRelease arg) ∨ (∃ arg, c = .registerWrite 0x7B arg) ∨ c = .powerOnReset ∨
    s.sp.tx = .writing 0x7B ∧ ((∃ b, c = .addressByte b) ∨ (∃ o, c = .timeSnapshot o) ∨ ∃ o, c = .headLatch o)

/-- R4, R12, R14, R36: a slew stays between 0 and its starting amount at a rate of 4 to 16, an edge-load target stays 896 ticks
below the largest time value, and the window position stays within its window. -/
def Obligations.StepKeepsTheTimebaseInRange : Prop :=
  ∀ s t : State, s.tb.Ok → step s = .next t → t.tb.Ok

/-- R36, R41, R44, R45: the capture lines' states, and the line an edge-aligned load waits for is enabled. -/
def Obligations.StepKeepsTheCaptureLines : Prop :=
  ∀ s t : State, s.CaptureOk → step s = .next t → t.CaptureOk

/-- R61, R62, R63, R69, R92: every entry of the schedule table keeps its form. -/
def Obligations.StepKeepsTheScheduleTable : Prop :=
  ∀ s t : State, s.TableOk → step s = .next t → t.TableOk

/-- R112, R127, R131, R135: the queue holds at most 32 records with a threshold of 1 to 32, the offers wait in the port's order,
and a pulse in flight stands at its active level. -/
def Obligations.StepKeepsQueueAndPulses : Prop :=
  ∀ s t : State, (s.trq.Ok ∧ s.cyc.offers.Pairwise (fun x y => x.rank ≤ y.rank) ∧ ∀ n, (s.outs.get n).Ok) →
    step s = .next t → t.trq.Ok ∧ t.cyc.offers.Pairwise (fun x y => x.rank ≤ y.rank) ∧ ∀ n, (t.outs.get n).Ok

/-- The state after reset is sound in every block. -/
def Obligations.ResetIsSound : Prop :=
  State.reset.GuardOk ∧ State.reset.tb.Ok ∧ State.reset.CaptureOk ∧ State.reset.TableOk ∧ State.reset.trq.Ok ∧
  State.reset.cyc.offers.Pairwise (fun x y => x.rank ≤ y.rank) ∧ ∀ n, (State.reset.outs.get n).Ok

end
end

