-- ==== Sys2Proof/Laws/Bank.lean ====
section
/-! SUPPORT. What a bank reads after each of its operations. -/

namespace Sys2Proof.Machine

variable {α β : Type} {n : Nat}

@[simp] theorem Bank.get_set_same (b : Bank α n) (i : Fin n) (x : α) : (b.set i x).get i = x := by
  simp [Bank.get, Bank.set]

theorem Bank.get_set_ne (b : Bank α n) {i j : Fin n} (x : α) (h : i ≠ j) : (b.set i x).get j = b.get j := by
  have hv : i.val ≠ j.val := fun e => h (Fin.ext e)
  simp [Bank.get, Bank.set, List.getElem_set_ne hv]

theorem Bank.get_set (b : Bank α n) (i j : Fin n) (x : α) :
    (b.set i x).get j = if i = j then x else b.get j := by
  by_cases h : i = j
  · subst h; simp
  · simp [h, Bank.get_set_ne b x h]

@[simp] theorem Bank.get_map (f : α → β) (b : Bank α n) (i : Fin n) : (b.map f).get i = f (b.get i) := by
  simp [Bank.get, Bank.map]

@[simp] theorem Bank.get_ofFn (f : Fin n → α) (i : Fin n) : (Bank.ofFn f).get i = f i := by
  simp [Bank.get, Bank.ofFn]

@[simp] theorem Bank.get_fill (x : α) (i : Fin n) : (Bank.fill n x).get i = x := by
  simp [Bank.get, Bank.fill]

@[simp] theorem Bank.get_modify_same (b : Bank α n) (i : Fin n) (f : α → α) :
    (b.modify i f).get i = f (b.get i) := by simp [Bank.modify]

theorem Bank.get_modify_ne (b : Bank α n) {i j : Fin n} (f : α → α) (h : i ≠ j) :
    (b.modify i f).get j = b.get j := by simp [Bank.modify, Bank.get_set_ne b _ h]

/-- Two banks are equal when they read the same at every number. -/
theorem Bank.ext_get {a b : Bank α n} (h : ∀ i, a.get i = b.get i) : a = b := by
  obtain ⟨l, hl⟩ := a
  obtain ⟨m, hm⟩ := b
  subst hl
  simp only [Subtype.mk.injEq]
  refine List.ext_getElem hm.symm fun i h1 h2 => ?_
  simpa [Bank.get] using h ⟨i, h1⟩

@[simp] theorem Bank.set_get_self (b : Bank α n) (i : Fin n) : b.set i (b.get i) = b := by
  apply Bank.ext_get
  intro j
  rw [Bank.get_set]
  split
  · next h => rw [h]
  · rfl

theorem Bank.all_iff (b : Bank α n) (p : α → Bool) : b.all p = true ↔ ∀ i, p (b.get i) = true := by
  obtain ⟨l, hl⟩ := b
  subst hl
  simp only [Bank.all, Bank.get, List.all_eq_true]
  constructor
  · intro h i; exact h _ (List.getElem_mem _)
  · intro h x hx
    obtain ⟨i, hi, rfl⟩ := List.getElem_of_mem hx
    exact h ⟨i, hi⟩

end Sys2Proof.Machine
end

