-- ==== Sys2Proof/Laws/State.lean ====
section
/-! SUPPORT. One lemma per field per named update of the state. -/

namespace Sys2Proof.Machine

variable (s : State)

/-! ## State.setTb -/

@[simp] theorem State.setTb_tb (x : Timebase) : (s.setTb x).tb = x := rfl
@[simp] theorem State.setTb_cap (x : Timebase) : (s.setTb x).cap = s.cap := rfl
@[simp] theorem State.setTb_sched (x : Timebase) : (s.setTb x).sched = s.sched := rfl
@[simp] theorem State.setTb_disp (x : Timebase) : (s.setTb x).disp = s.disp := rfl
@[simp] theorem State.setTb_outs (x : Timebase) : (s.setTb x).outs = s.outs := rfl
@[simp] theorem State.setTb_trq (x : Timebase) : (s.setTb x).trq = s.trq := rfl
@[simp] theorem State.setTb_guard (x : Timebase) : (s.setTb x).guard = s.guard := rfl
@[simp] theorem State.setTb_icu (x : Timebase) : (s.setTb x).icu = s.icu := rfl
@[simp] theorem State.setTb_sp (x : Timebase) : (s.setTb x).sp = s.sp := rfl
@[simp] theorem State.setTb_pins (x : Timebase) : (s.setTb x).pins = s.pins := rfl
@[simp] theorem State.setTb_cyc (x : Timebase) : (s.setTb x).cyc = s.cyc := rfl
@[simp] theorem State.setTb_resetLow (x : Timebase) : (s.setTb x).resetLow = s.resetLow := rfl
@[simp] theorem State.setTb_fresh (x : Timebase) : (s.setTb x).fresh = s.fresh := rfl
@[simp] theorem State.setTb_pending (x : Timebase) : (s.setTb x).pending = s.pending := rfl
@[simp] theorem State.setTb_same : s.setTb s.tb = s := rfl
@[simp] theorem State.setTb_setTb (x y : Timebase) : (s.setTb x).setTb y = s.setTb y := rfl

/-! ## State.setCap -/

@[simp] theorem State.setCap_tb (x : Bank CapLine 6) : (s.setCap x).tb = s.tb := rfl
@[simp] theorem State.setCap_cap (x : Bank CapLine 6) : (s.setCap x).cap = x := rfl
@[simp] theorem State.setCap_sched (x : Bank CapLine 6) : (s.setCap x).sched = s.sched := rfl
@[simp] theorem State.setCap_disp (x : Bank CapLine 6) : (s.setCap x).disp = s.disp := rfl
@[simp] theorem State.setCap_outs (x : Bank CapLine 6) : (s.setCap x).outs = s.outs := rfl
@[simp] theorem State.setCap_trq (x : Bank CapLine 6) : (s.setCap x).trq = s.trq := rfl
@[simp] theorem State.setCap_guard (x : Bank CapLine 6) : (s.setCap x).guard = s.guard := rfl
@[simp] theorem State.setCap_icu (x : Bank CapLine 6) : (s.setCap x).icu = s.icu := rfl
@[simp] theorem State.setCap_sp (x : Bank CapLine 6) : (s.setCap x).sp = s.sp := rfl
@[simp] theorem State.setCap_pins (x : Bank CapLine 6) : (s.setCap x).pins = s.pins := rfl
@[simp] theorem State.setCap_cyc (x : Bank CapLine 6) : (s.setCap x).cyc = s.cyc := rfl
@[simp] theorem State.setCap_resetLow (x : Bank CapLine 6) : (s.setCap x).resetLow = s.resetLow := rfl
@[simp] theorem State.setCap_fresh (x : Bank CapLine 6) : (s.setCap x).fresh = s.fresh := rfl
@[simp] theorem State.setCap_pending (x : Bank CapLine 6) : (s.setCap x).pending = s.pending := rfl
@[simp] theorem State.setCap_same : s.setCap s.cap = s := rfl
@[simp] theorem State.setCap_setCap (x y : Bank CapLine 6) : (s.setCap x).setCap y = s.setCap y := rfl

/-! ## State.setSched -/

@[simp] theorem State.setSched_tb (x : Schedule) : (s.setSched x).tb = s.tb := rfl
@[simp] theorem State.setSched_cap (x : Schedule) : (s.setSched x).cap = s.cap := rfl
@[simp] theorem State.setSched_sched (x : Schedule) : (s.setSched x).sched = x := rfl
@[simp] theorem State.setSched_disp (x : Schedule) : (s.setSched x).disp = s.disp := rfl
@[simp] theorem State.setSched_outs (x : Schedule) : (s.setSched x).outs = s.outs := rfl
@[simp] theorem State.setSched_trq (x : Schedule) : (s.setSched x).trq = s.trq := rfl
@[simp] theorem State.setSched_guard (x : Schedule) : (s.setSched x).guard = s.guard := rfl
@[simp] theorem State.setSched_icu (x : Schedule) : (s.setSched x).icu = s.icu := rfl
@[simp] theorem State.setSched_sp (x : Schedule) : (s.setSched x).sp = s.sp := rfl
@[simp] theorem State.setSched_pins (x : Schedule) : (s.setSched x).pins = s.pins := rfl
@[simp] theorem State.setSched_cyc (x : Schedule) : (s.setSched x).cyc = s.cyc := rfl
@[simp] theorem State.setSched_resetLow (x : Schedule) : (s.setSched x).resetLow = s.resetLow := rfl
@[simp] theorem State.setSched_fresh (x : Schedule) : (s.setSched x).fresh = s.fresh := rfl
@[simp] theorem State.setSched_pending (x : Schedule) : (s.setSched x).pending = s.pending := rfl
@[simp] theorem State.setSched_same : s.setSched s.sched = s := rfl
@[simp] theorem State.setSched_setSched (x y : Schedule) : (s.setSched x).setSched y = s.setSched y := rfl

/-! ## State.setDisp -/

@[simp] theorem State.setDisp_tb (x : Dispatcher) : (s.setDisp x).tb = s.tb := rfl
@[simp] theorem State.setDisp_cap (x : Dispatcher) : (s.setDisp x).cap = s.cap := rfl
@[simp] theorem State.setDisp_sched (x : Dispatcher) : (s.setDisp x).sched = s.sched := rfl
@[simp] theorem State.setDisp_disp (x : Dispatcher) : (s.setDisp x).disp = x := rfl
@[simp] theorem State.setDisp_outs (x : Dispatcher) : (s.setDisp x).outs = s.outs := rfl
@[simp] theorem State.setDisp_trq (x : Dispatcher) : (s.setDisp x).trq = s.trq := rfl
@[simp] theorem State.setDisp_guard (x : Dispatcher) : (s.setDisp x).guard = s.guard := rfl
@[simp] theorem State.setDisp_icu (x : Dispatcher) : (s.setDisp x).icu = s.icu := rfl
@[simp] theorem State.setDisp_sp (x : Dispatcher) : (s.setDisp x).sp = s.sp := rfl
@[simp] theorem State.setDisp_pins (x : Dispatcher) : (s.setDisp x).pins = s.pins := rfl
@[simp] theorem State.setDisp_cyc (x : Dispatcher) : (s.setDisp x).cyc = s.cyc := rfl
@[simp] theorem State.setDisp_resetLow (x : Dispatcher) : (s.setDisp x).resetLow = s.resetLow := rfl
@[simp] theorem State.setDisp_fresh (x : Dispatcher) : (s.setDisp x).fresh = s.fresh := rfl
@[simp] theorem State.setDisp_pending (x : Dispatcher) : (s.setDisp x).pending = s.pending := rfl
@[simp] theorem State.setDisp_same : s.setDisp s.disp = s := rfl
@[simp] theorem State.setDisp_setDisp (x y : Dispatcher) : (s.setDisp x).setDisp y = s.setDisp y := rfl

/-! ## State.setOuts -/

@[simp] theorem State.setOuts_tb (x : Bank OutLine 8) : (s.setOuts x).tb = s.tb := rfl
@[simp] theorem State.setOuts_cap (x : Bank OutLine 8) : (s.setOuts x).cap = s.cap := rfl
@[simp] theorem State.setOuts_sched (x : Bank OutLine 8) : (s.setOuts x).sched = s.sched := rfl
@[simp] theorem State.setOuts_disp (x : Bank OutLine 8) : (s.setOuts x).disp = s.disp := rfl
@[simp] theorem State.setOuts_outs (x : Bank OutLine 8) : (s.setOuts x).outs = x := rfl
@[simp] theorem State.setOuts_trq (x : Bank OutLine 8) : (s.setOuts x).trq = s.trq := rfl
@[simp] theorem State.setOuts_guard (x : Bank OutLine 8) : (s.setOuts x).guard = s.guard := rfl
@[simp] theorem State.setOuts_icu (x : Bank OutLine 8) : (s.setOuts x).icu = s.icu := rfl
@[simp] theorem State.setOuts_sp (x : Bank OutLine 8) : (s.setOuts x).sp = s.sp := rfl
@[simp] theorem State.setOuts_pins (x : Bank OutLine 8) : (s.setOuts x).pins = s.pins := rfl
@[simp] theorem State.setOuts_cyc (x : Bank OutLine 8) : (s.setOuts x).cyc = s.cyc := rfl
@[simp] theorem State.setOuts_resetLow (x : Bank OutLine 8) : (s.setOuts x).resetLow = s.resetLow := rfl
@[simp] theorem State.setOuts_fresh (x : Bank OutLine 8) : (s.setOuts x).fresh = s.fresh := rfl
@[simp] theorem State.setOuts_pending (x : Bank OutLine 8) : (s.setOuts x).pending = s.pending := rfl
@[simp] theorem State.setOuts_same : s.setOuts s.outs = s := rfl
@[simp] theorem State.setOuts_setOuts (x y : Bank OutLine 8) : (s.setOuts x).setOuts y = s.setOuts y := rfl

/-! ## State.setTrq -/

@[simp] theorem State.setTrq_tb (x : RecordQueue) : (s.setTrq x).tb = s.tb := rfl
@[simp] theorem State.setTrq_cap (x : RecordQueue) : (s.setTrq x).cap = s.cap := rfl
@[simp] theorem State.setTrq_sched (x : RecordQueue) : (s.setTrq x).sched = s.sched := rfl
@[simp] theorem State.setTrq_disp (x : RecordQueue) : (s.setTrq x).disp = s.disp := rfl
@[simp] theorem State.setTrq_outs (x : RecordQueue) : (s.setTrq x).outs = s.outs := rfl
@[simp] theorem State.setTrq_trq (x : RecordQueue) : (s.setTrq x).trq = x := rfl
@[simp] theorem State.setTrq_guard (x : RecordQueue) : (s.setTrq x).guard = s.guard := rfl
@[simp] theorem State.setTrq_icu (x : RecordQueue) : (s.setTrq x).icu = s.icu := rfl
@[simp] theorem State.setTrq_sp (x : RecordQueue) : (s.setTrq x).sp = s.sp := rfl
@[simp] theorem State.setTrq_pins (x : RecordQueue) : (s.setTrq x).pins = s.pins := rfl
@[simp] theorem State.setTrq_cyc (x : RecordQueue) : (s.setTrq x).cyc = s.cyc := rfl
@[simp] theorem State.setTrq_resetLow (x : RecordQueue) : (s.setTrq x).resetLow = s.resetLow := rfl
@[simp] theorem State.setTrq_fresh (x : RecordQueue) : (s.setTrq x).fresh = s.fresh := rfl
@[simp] theorem State.setTrq_pending (x : RecordQueue) : (s.setTrq x).pending = s.pending := rfl
@[simp] theorem State.setTrq_same : s.setTrq s.trq = s := rfl
@[simp] theorem State.setTrq_setTrq (x y : RecordQueue) : (s.setTrq x).setTrq y = s.setTrq y := rfl

/-! ## State.setGuard -/

@[simp] theorem State.setGuard_tb (x : GuardUnit) : (s.setGuard x).tb = s.tb := rfl
@[simp] theorem State.setGuard_cap (x : GuardUnit) : (s.setGuard x).cap = s.cap := rfl
@[simp] theorem State.setGuard_sched (x : GuardUnit) : (s.setGuard x).sched = s.sched := rfl
@[simp] theorem State.setGuard_disp (x : GuardUnit) : (s.setGuard x).disp = s.disp := rfl
@[simp] theorem State.setGuard_outs (x : GuardUnit) : (s.setGuard x).outs = s.outs := rfl
@[simp] theorem State.setGuard_trq (x : GuardUnit) : (s.setGuard x).trq = s.trq := rfl
@[simp] theorem State.setGuard_guard (x : GuardUnit) : (s.setGuard x).guard = x := rfl
@[simp] theorem State.setGuard_icu (x : GuardUnit) : (s.setGuard x).icu = s.icu := rfl
@[simp] theorem State.setGuard_sp (x : GuardUnit) : (s.setGuard x).sp = s.sp := rfl
@[simp] theorem State.setGuard_pins (x : GuardUnit) : (s.setGuard x).pins = s.pins := rfl
@[simp] theorem State.setGuard_cyc (x : GuardUnit) : (s.setGuard x).cyc = s.cyc := rfl
@[simp] theorem State.setGuard_resetLow (x : GuardUnit) : (s.setGuard x).resetLow = s.resetLow := rfl
@[simp] theorem State.setGuard_fresh (x : GuardUnit) : (s.setGuard x).fresh = s.fresh := rfl
@[simp] theorem State.setGuard_pending (x : GuardUnit) : (s.setGuard x).pending = s.pending := rfl
@[simp] theorem State.setGuard_same : s.setGuard s.guard = s := rfl
@[simp] theorem State.setGuard_setGuard (x y : GuardUnit) : (s.setGuard x).setGuard y = s.setGuard y := rfl

/-! ## State.setIcu -/

@[simp] theorem State.setIcu_tb (x : Interrupts) : (s.setIcu x).tb = s.tb := rfl
@[simp] theorem State.setIcu_cap (x : Interrupts) : (s.setIcu x).cap = s.cap := rfl
@[simp] theorem State.setIcu_sched (x : Interrupts) : (s.setIcu x).sched = s.sched := rfl
@[simp] theorem State.setIcu_disp (x : Interrupts) : (s.setIcu x).disp = s.disp := rfl
@[simp] theorem State.setIcu_outs (x : Interrupts) : (s.setIcu x).outs = s.outs := rfl
@[simp] theorem State.setIcu_trq (x : Interrupts) : (s.setIcu x).trq = s.trq := rfl
@[simp] theorem State.setIcu_guard (x : Interrupts) : (s.setIcu x).guard = s.guard := rfl
@[simp] theorem State.setIcu_icu (x : Interrupts) : (s.setIcu x).icu = x := rfl
@[simp] theorem State.setIcu_sp (x : Interrupts) : (s.setIcu x).sp = s.sp := rfl
@[simp] theorem State.setIcu_pins (x : Interrupts) : (s.setIcu x).pins = s.pins := rfl
@[simp] theorem State.setIcu_cyc (x : Interrupts) : (s.setIcu x).cyc = s.cyc := rfl
@[simp] theorem State.setIcu_resetLow (x : Interrupts) : (s.setIcu x).resetLow = s.resetLow := rfl
@[simp] theorem State.setIcu_fresh (x : Interrupts) : (s.setIcu x).fresh = s.fresh := rfl
@[simp] theorem State.setIcu_pending (x : Interrupts) : (s.setIcu x).pending = s.pending := rfl
@[simp] theorem State.setIcu_same : s.setIcu s.icu = s := rfl
@[simp] theorem State.setIcu_setIcu (x y : Interrupts) : (s.setIcu x).setIcu y = s.setIcu y := rfl

/-! ## State.setSp -/

@[simp] theorem State.setSp_tb (x : SerialPort) : (s.setSp x).tb = s.tb := rfl
@[simp] theorem State.setSp_cap (x : SerialPort) : (s.setSp x).cap = s.cap := rfl
@[simp] theorem State.setSp_sched (x : SerialPort) : (s.setSp x).sched = s.sched := rfl
@[simp] theorem State.setSp_disp (x : SerialPort) : (s.setSp x).disp = s.disp := rfl
@[simp] theorem State.setSp_outs (x : SerialPort) : (s.setSp x).outs = s.outs := rfl
@[simp] theorem State.setSp_trq (x : SerialPort) : (s.setSp x).trq = s.trq := rfl
@[simp] theorem State.setSp_guard (x : SerialPort) : (s.setSp x).guard = s.guard := rfl
@[simp] theorem State.setSp_icu (x : SerialPort) : (s.setSp x).icu = s.icu := rfl
@[simp] theorem State.setSp_sp (x : SerialPort) : (s.setSp x).sp = x := rfl
@[simp] theorem State.setSp_pins (x : SerialPort) : (s.setSp x).pins = s.pins := rfl
@[simp] theorem State.setSp_cyc (x : SerialPort) : (s.setSp x).cyc = s.cyc := rfl
@[simp] theorem State.setSp_resetLow (x : SerialPort) : (s.setSp x).resetLow = s.resetLow := rfl
@[simp] theorem State.setSp_fresh (x : SerialPort) : (s.setSp x).fresh = s.fresh := rfl
@[simp] theorem State.setSp_pending (x : SerialPort) : (s.setSp x).pending = s.pending := rfl
@[simp] theorem State.setSp_same : s.setSp s.sp = s := rfl
@[simp] theorem State.setSp_setSp (x y : SerialPort) : (s.setSp x).setSp y = s.setSp y := rfl

/-! ## State.setPins -/

@[simp] theorem State.setPins_tb (x : Pins) : (s.setPins x).tb = s.tb := rfl
@[simp] theorem State.setPins_cap (x : Pins) : (s.setPins x).cap = s.cap := rfl
@[simp] theorem State.setPins_sched (x : Pins) : (s.setPins x).sched = s.sched := rfl
@[simp] theorem State.setPins_disp (x : Pins) : (s.setPins x).disp = s.disp := rfl
@[simp] theorem State.setPins_outs (x : Pins) : (s.setPins x).outs = s.outs := rfl
@[simp] theorem State.setPins_trq (x : Pins) : (s.setPins x).trq = s.trq := rfl
@[simp] theorem State.setPins_guard (x : Pins) : (s.setPins x).guard = s.guard := rfl
@[simp] theorem State.setPins_icu (x : Pins) : (s.setPins x).icu = s.icu := rfl
@[simp] theorem State.setPins_sp (x : Pins) : (s.setPins x).sp = s.sp := rfl
@[simp] theorem State.setPins_pins (x : Pins) : (s.setPins x).pins = x := rfl
@[simp] theorem State.setPins_cyc (x : Pins) : (s.setPins x).cyc = s.cyc := rfl
@[simp] theorem State.setPins_resetLow (x : Pins) : (s.setPins x).resetLow = s.resetLow := rfl
@[simp] theorem State.setPins_fresh (x : Pins) : (s.setPins x).fresh = s.fresh := rfl
@[simp] theorem State.setPins_pending (x : Pins) : (s.setPins x).pending = s.pending := rfl
@[simp] theorem State.setPins_same : s.setPins s.pins = s := rfl
@[simp] theorem State.setPins_setPins (x y : Pins) : (s.setPins x).setPins y = s.setPins y := rfl

/-! ## State.setCyc -/

@[simp] theorem State.setCyc_tb (x : Cycle) : (s.setCyc x).tb = s.tb := rfl
@[simp] theorem State.setCyc_cap (x : Cycle) : (s.setCyc x).cap = s.cap := rfl
@[simp] theorem State.setCyc_sched (x : Cycle) : (s.setCyc x).sched = s.sched := rfl
@[simp] theorem State.setCyc_disp (x : Cycle) : (s.setCyc x).disp = s.disp := rfl
@[simp] theorem State.setCyc_outs (x : Cycle) : (s.setCyc x).outs = s.outs := rfl
@[simp] theorem State.setCyc_trq (x : Cycle) : (s.setCyc x).trq = s.trq := rfl
@[simp] theorem State.setCyc_guard (x : Cycle) : (s.setCyc x).guard = s.guard := rfl
@[simp] theorem State.setCyc_icu (x : Cycle) : (s.setCyc x).icu = s.icu := rfl
@[simp] theorem State.setCyc_sp (x : Cycle) : (s.setCyc x).sp = s.sp := rfl
@[simp] theorem State.setCyc_pins (x : Cycle) : (s.setCyc x).pins = s.pins := rfl
@[simp] theorem State.setCyc_cyc (x : Cycle) : (s.setCyc x).cyc = x := rfl
@[simp] theorem State.setCyc_resetLow (x : Cycle) : (s.setCyc x).resetLow = s.resetLow := rfl
@[simp] theorem State.setCyc_fresh (x : Cycle) : (s.setCyc x).fresh = s.fresh := rfl
@[simp] theorem State.setCyc_pending (x : Cycle) : (s.setCyc x).pending = s.pending := rfl
@[simp] theorem State.setCyc_same : s.setCyc s.cyc = s := rfl
@[simp] theorem State.setCyc_setCyc (x y : Cycle) : (s.setCyc x).setCyc y = s.setCyc y := rfl

/-! ## State.setResetLow -/

@[simp] theorem State.setResetLow_tb (x : Bool) : (s.setResetLow x).tb = s.tb := rfl
@[simp] theorem State.setResetLow_cap (x : Bool) : (s.setResetLow x).cap = s.cap := rfl
@[simp] theorem State.setResetLow_sched (x : Bool) : (s.setResetLow x).sched = s.sched := rfl
@[simp] theorem State.setResetLow_disp (x : Bool) : (s.setResetLow x).disp = s.disp := rfl
@[simp] theorem State.setResetLow_outs (x : Bool) : (s.setResetLow x).outs = s.outs := rfl
@[simp] theorem State.setResetLow_trq (x : Bool) : (s.setResetLow x).trq = s.trq := rfl
@[simp] theorem State.setResetLow_guard (x : Bool) : (s.setResetLow x).guard = s.guard := rfl
@[simp] theorem State.setResetLow_icu (x : Bool) : (s.setResetLow x).icu = s.icu := rfl
@[simp] theorem State.setResetLow_sp (x : Bool) : (s.setResetLow x).sp = s.sp := rfl
@[simp] theorem State.setResetLow_pins (x : Bool) : (s.setResetLow x).pins = s.pins := rfl
@[simp] theorem State.setResetLow_cyc (x : Bool) : (s.setResetLow x).cyc = s.cyc := rfl
@[simp] theorem State.setResetLow_resetLow (x : Bool) : (s.setResetLow x).resetLow = x := rfl
@[simp] theorem State.setResetLow_fresh (x : Bool) : (s.setResetLow x).fresh = s.fresh := rfl
@[simp] theorem State.setResetLow_pending (x : Bool) : (s.setResetLow x).pending = s.pending := rfl
@[simp] theorem State.setResetLow_same : s.setResetLow s.resetLow = s := rfl
@[simp] theorem State.setResetLow_setResetLow (x y : Bool) : (s.setResetLow x).setResetLow y = s.setResetLow y := rfl

/-! ## State.setFresh -/

@[simp] theorem State.setFresh_tb (x : Nat) : (s.setFresh x).tb = s.tb := rfl
@[simp] theorem State.setFresh_cap (x : Nat) : (s.setFresh x).cap = s.cap := rfl
@[simp] theorem State.setFresh_sched (x : Nat) : (s.setFresh x).sched = s.sched := rfl
@[simp] theorem State.setFresh_disp (x : Nat) : (s.setFresh x).disp = s.disp := rfl
@[simp] theorem State.setFresh_outs (x : Nat) : (s.setFresh x).outs = s.outs := rfl
@[simp] theorem State.setFresh_trq (x : Nat) : (s.setFresh x).trq = s.trq := rfl
@[simp] theorem State.setFresh_guard (x : Nat) : (s.setFresh x).guard = s.guard := rfl
@[simp] theorem State.setFresh_icu (x : Nat) : (s.setFresh x).icu = s.icu := rfl
@[simp] theorem State.setFresh_sp (x : Nat) : (s.setFresh x).sp = s.sp := rfl
@[simp] theorem State.setFresh_pins (x : Nat) : (s.setFresh x).pins = s.pins := rfl
@[simp] theorem State.setFresh_cyc (x : Nat) : (s.setFresh x).cyc = s.cyc := rfl
@[simp] theorem State.setFresh_resetLow (x : Nat) : (s.setFresh x).resetLow = s.resetLow := rfl
@[simp] theorem State.setFresh_fresh (x : Nat) : (s.setFresh x).fresh = x := rfl
@[simp] theorem State.setFresh_pending (x : Nat) : (s.setFresh x).pending = s.pending := rfl
@[simp] theorem State.setFresh_same : s.setFresh s.fresh = s := rfl
@[simp] theorem State.setFresh_setFresh (x y : Nat) : (s.setFresh x).setFresh y = s.setFresh y := rfl

/-! ## State.setPending -/

@[simp] theorem State.setPending_tb (x : List Instr) : (s.setPending x).tb = s.tb := rfl
@[simp] theorem State.setPending_cap (x : List Instr) : (s.setPending x).cap = s.cap := rfl
@[simp] theorem State.setPending_sched (x : List Instr) : (s.setPending x).sched = s.sched := rfl
@[simp] theorem State.setPending_disp (x : List Instr) : (s.setPending x).disp = s.disp := rfl
@[simp] theorem State.setPending_outs (x : List Instr) : (s.setPending x).outs = s.outs := rfl
@[simp] theorem State.setPending_trq (x : List Instr) : (s.setPending x).trq = s.trq := rfl
@[simp] theorem State.setPending_guard (x : List Instr) : (s.setPending x).guard = s.guard := rfl
@[simp] theorem State.setPending_icu (x : List Instr) : (s.setPending x).icu = s.icu := rfl
@[simp] theorem State.setPending_sp (x : List Instr) : (s.setPending x).sp = s.sp := rfl
@[simp] theorem State.setPending_pins (x : List Instr) : (s.setPending x).pins = s.pins := rfl
@[simp] theorem State.setPending_cyc (x : List Instr) : (s.setPending x).cyc = s.cyc := rfl
@[simp] theorem State.setPending_resetLow (x : List Instr) : (s.setPending x).resetLow = s.resetLow := rfl
@[simp] theorem State.setPending_fresh (x : List Instr) : (s.setPending x).fresh = s.fresh := rfl
@[simp] theorem State.setPending_pending (x : List Instr) : (s.setPending x).pending = x := rfl
@[simp] theorem State.setPending_same : s.setPending s.pending = s := rfl
@[simp] theorem State.setPending_setPending (x y : List Instr) : (s.setPending x).setPending y = s.setPending y := rfl

end Sys2Proof.Machine
end

