-- ==== Sys2Proof/Laws/Frames.lean ====
section
/-! SUPPORT. For each shared operation, one lemma that says which parts of the state it leaves as they were. -/

namespace Sys2Proof.Machine

variable (s : State)

/-- A raise reaches the ICU alone (R162). -/
@[simp] theorem State.raise_frame (f : Flag) :
    (s.raise f).tb = s.tb ∧ (s.raise f).cap = s.cap ∧ (s.raise f).sched = s.sched ∧ (s.raise f).disp = s.disp ∧
    (s.raise f).outs = s.outs ∧ (s.raise f).trq = s.trq ∧ (s.raise f).guard = s.guard ∧ (s.raise f).sp = s.sp ∧
    (s.raise f).pins = s.pins ∧ (s.raise f).cyc = s.cyc ∧ (s.raise f).resetLow = s.resetLow ∧
    (s.raise f).fresh = s.fresh ∧ (s.raise f).pending = s.pending := by
  unfold State.raise; split <;> simp

/-- A conditional raise reaches the ICU alone. -/
@[simp] theorem State.raiseIf_frame (b : Bool) (f : Flag) :
    (s.raiseIf b f).tb = s.tb ∧ (s.raiseIf b f).cap = s.cap ∧ (s.raiseIf b f).sched = s.sched ∧
    (s.raiseIf b f).disp = s.disp ∧ (s.raiseIf b f).outs = s.outs ∧ (s.raiseIf b f).trq = s.trq ∧
    (s.raiseIf b f).guard = s.guard ∧ (s.raiseIf b f).sp = s.sp ∧ (s.raiseIf b f).pins = s.pins ∧
    (s.raiseIf b f).cyc = s.cyc ∧ (s.raiseIf b f).resetLow = s.resetLow ∧ (s.raiseIf b f).fresh = s.fresh ∧
    (s.raiseIf b f).pending = s.pending := by
  unfold State.raiseIf; split <;> simp

/-- A command result reaches the ICU alone (R165). -/
@[simp] theorem State.setResult_frame (strobe : Byte) (code : ResultCode) :
    (State.setResult strobe code s).tb = s.tb ∧ (State.setResult strobe code s).cap = s.cap ∧
    (State.setResult strobe code s).sched = s.sched ∧ (State.setResult strobe code s).disp = s.disp ∧
    (State.setResult strobe code s).outs = s.outs ∧ (State.setResult strobe code s).trq = s.trq ∧
    (State.setResult strobe code s).guard = s.guard ∧ (State.setResult strobe code s).sp = s.sp ∧
    (State.setResult strobe code s).pins = s.pins ∧ (State.setResult strobe code s).cyc = s.cyc ∧
    (State.setResult strobe code s).resetLow = s.resetLow ∧ (State.setResult strobe code s).fresh = s.fresh ∧
    (State.setResult strobe code s).pending = s.pending := by simp [State.setResult]

/-- An offer waits at the port and reaches nothing else (R130). -/
@[simp] theorem State.offer_frame (o : Offer) :
    (s.offer o).tb = s.tb ∧ (s.offer o).cap = s.cap ∧ (s.offer o).sched = s.sched ∧ (s.offer o).disp = s.disp ∧
    (s.offer o).outs = s.outs ∧ (s.offer o).trq = s.trq ∧ (s.offer o).guard = s.guard ∧ (s.offer o).icu = s.icu ∧
    (s.offer o).sp = s.sp ∧ (s.offer o).pins = s.pins ∧ (s.offer o).resetLow = s.resetLow ∧
    (s.offer o).fresh = s.fresh ∧ (s.offer o).pending = s.pending := by simp [State.offer]

/-- An offer that is taken reaches the queue and QLOSS alone (R130, R134). -/
@[simp] theorem State.takeOffer_frame (o : Offer) :
    (s.takeOffer o).tb = s.tb ∧ (s.takeOffer o).cap = s.cap ∧ (s.takeOffer o).sched = s.sched ∧
    (s.takeOffer o).disp = s.disp ∧ (s.takeOffer o).outs = s.outs ∧ (s.takeOffer o).guard = s.guard ∧
    (s.takeOffer o).sp = s.sp ∧ (s.takeOffer o).pins = s.pins ∧ (s.takeOffer o).cyc = s.cyc ∧
    (s.takeOffer o).resetLow = s.resetLow ∧ (s.takeOffer o).fresh = s.fresh ∧ (s.takeOffer o).pending = s.pending := by simp [State.takeOffer]

/-- Offers that are taken reach the queue and QLOSS alone (R131). -/
@[simp] theorem State.takeOffers_frame (os : List Offer) :
    (os.foldl State.takeOffer s).tb = s.tb ∧ (os.foldl State.takeOffer s).cap = s.cap ∧
    (os.foldl State.takeOffer s).sched = s.sched ∧ (os.foldl State.takeOffer s).disp = s.disp ∧
    (os.foldl State.takeOffer s).outs = s.outs ∧ (os.foldl State.takeOffer s).guard = s.guard ∧
    (os.foldl State.takeOffer s).sp = s.sp ∧ (os.foldl State.takeOffer s).pins = s.pins ∧
    (os.foldl State.takeOffer s).cyc = s.cyc ∧ (os.foldl State.takeOffer s).resetLow = s.resetLow ∧
    (os.foldl State.takeOffer s).fresh = s.fresh ∧ (os.foldl State.takeOffer s).pending = s.pending := by
  induction os generalizing s with
  | nil => simp
  | cons a as ih => simp [ih]

/-- The port reaches the queue and QLOSS alone (R131). -/
@[simp] theorem State.drainAll_frame :
    (s.drainAll).tb = s.tb ∧ (s.drainAll).cap = s.cap ∧ (s.drainAll).sched = s.sched ∧ (s.drainAll).disp = s.disp ∧
    (s.drainAll).outs = s.outs ∧ (s.drainAll).guard = s.guard ∧ (s.drainAll).sp = s.sp ∧
    (s.drainAll).pins = s.pins ∧ (s.drainAll).resetLow = s.resetLow ∧ (s.drainAll).fresh = s.fresh ∧
    (s.drainAll).pending = s.pending := by simp [State.drainAll]

/-- The port reaches the queue and QLOSS alone (R131). -/
@[simp] theorem State.drainReady_frame :
    (s.drainReady).tb = s.tb ∧ (s.drainReady).cap = s.cap ∧ (s.drainReady).sched = s.sched ∧
    (s.drainReady).disp = s.disp ∧ (s.drainReady).outs = s.outs ∧ (s.drainReady).guard = s.guard ∧
    (s.drainReady).sp = s.sp ∧ (s.drainReady).pins = s.pins ∧ (s.drainReady).resetLow = s.resetLow ∧
    (s.drainReady).fresh = s.fresh ∧ (s.drainReady).pending = s.pending := by simp [State.drainReady]

/-- A STEP record is offered and nothing else changes (R23). -/
@[simp] theorem State.offerStep_frame (src : StepSource) (back : Bool) (a : Int) :
    (s.offerStep src back a).tb = s.tb ∧ (s.offerStep src back a).cap = s.cap ∧
    (s.offerStep src back a).sched = s.sched ∧ (s.offerStep src back a).disp = s.disp ∧
    (s.offerStep src back a).outs = s.outs ∧ (s.offerStep src back a).trq = s.trq ∧
    (s.offerStep src back a).guard = s.guard ∧ (s.offerStep src back a).icu = s.icu ∧
    (s.offerStep src back a).sp = s.sp ∧ (s.offerStep src back a).pins = s.pins ∧
    (s.offerStep src back a).resetLow = s.resetLow ∧ (s.offerStep src back a).fresh = s.fresh ∧
    (s.offerStep src back a).pending = s.pending := by simp [State.offerStep]

/-- An action reaches the output lines alone (R116). -/
@[simp] theorem State.takeAction_frame (d : Deed) :
    (s.takeAction d).tb = s.tb ∧ (s.takeAction d).cap = s.cap ∧ (s.takeAction d).sched = s.sched ∧
    (s.takeAction d).disp = s.disp ∧ (s.takeAction d).trq = s.trq ∧ (s.takeAction d).guard = s.guard ∧
    (s.takeAction d).icu = s.icu ∧ (s.takeAction d).sp = s.sp ∧ (s.takeAction d).pins = s.pins ∧
    (s.takeAction d).cyc = s.cyc ∧ (s.takeAction d).resetLow = s.resetLow ∧ (s.takeAction d).fresh = s.fresh ∧
    (s.takeAction d).pending = s.pending := by
  unfold State.takeAction; split <;> simp

/-- An action that was held back reaches the output lines alone (R122). -/
@[simp] theorem State.deliverAction_frame :
    (s.deliverAction).tb = s.tb ∧ (s.deliverAction).cap = s.cap ∧ (s.deliverAction).sched = s.sched ∧
    (s.deliverAction).disp = s.disp ∧ (s.deliverAction).trq = s.trq ∧ (s.deliverAction).guard = s.guard ∧
    (s.deliverAction).icu = s.icu ∧ (s.deliverAction).sp = s.sp ∧ (s.deliverAction).pins = s.pins ∧
    (s.deliverAction).resetLow = s.resetLow ∧ (s.deliverAction).fresh = s.fresh ∧
    (s.deliverAction).pending = s.pending := by
  unfold State.deliverAction; split <;> simp

/-- An action handed over reaches the output lines alone (R88). -/
@[simp] theorem State.handAction_frame (order : ActionOrder) (d : Deed) :
    (s.handAction order d).tb = s.tb ∧ (s.handAction order d).cap = s.cap ∧
    (s.handAction order d).sched = s.sched ∧ (s.handAction order d).disp = s.disp ∧
    (s.handAction order d).trq = s.trq ∧ (s.handAction order d).guard = s.guard ∧
    (s.handAction order d).icu = s.icu ∧ (s.handAction order d).sp = s.sp ∧ (s.handAction order d).pins = s.pins ∧
    (s.handAction order d).resetLow = s.resetLow ∧ (s.handAction order d).fresh = s.fresh ∧
    (s.handAction order d).pending = s.pending := by
  cases order <;> simp [State.handAction]

/-- An entry that is replaced is the only change. -/
@[simp] theorem State.setEntry_frame (n : Fin 32) (e : Entry) :
    (s.setEntry n e).tb = s.tb ∧ (s.setEntry n e).cap = s.cap ∧ (s.setEntry n e).disp = s.disp ∧
    (s.setEntry n e).outs = s.outs ∧ (s.setEntry n e).trq = s.trq ∧ (s.setEntry n e).guard = s.guard ∧
    (s.setEntry n e).icu = s.icu ∧ (s.setEntry n e).sp = s.sp ∧ (s.setEntry n e).pins = s.pins ∧
    (s.setEntry n e).cyc = s.cyc ∧ (s.setEntry n e).resetLow = s.resetLow ∧ (s.setEntry n e).fresh = s.fresh ∧
    (s.setEntry n e).pending = s.pending := by simp [State.setEntry]

/-- A change of every entry reaches the table alone. -/
@[simp] theorem State.mapEntries_frame (f : Entry → Entry) :
    (s.mapEntries f).tb = s.tb ∧ (s.mapEntries f).cap = s.cap ∧ (s.mapEntries f).disp = s.disp ∧
    (s.mapEntries f).outs = s.outs ∧ (s.mapEntries f).trq = s.trq ∧ (s.mapEntries f).guard = s.guard ∧
    (s.mapEntries f).icu = s.icu ∧ (s.mapEntries f).sp = s.sp ∧ (s.mapEntries f).pins = s.pins ∧
    (s.mapEntries f).cyc = s.cyc ∧ (s.mapEntries f).resetLow = s.resetLow ∧ (s.mapEntries f).fresh = s.fresh ∧
    (s.mapEntries f).pending = s.pending := by simp [State.mapEntries]

/-- The sweep reaches the table alone (R95). -/
@[simp] theorem State.sweep_frame (t : Ticks) :
    (s.sweep t).tb = s.tb ∧ (s.sweep t).cap = s.cap ∧ (s.sweep t).disp = s.disp ∧ (s.sweep t).outs = s.outs ∧
    (s.sweep t).trq = s.trq ∧ (s.sweep t).guard = s.guard ∧ (s.sweep t).icu = s.icu ∧ (s.sweep t).sp = s.sp ∧
    (s.sweep t).pins = s.pins ∧ (s.sweep t).cyc = s.cyc ∧ (s.sweep t).resetLow = s.resetLow ∧
    (s.sweep t).fresh = s.fresh ∧ (s.sweep t).pending = s.pending := by simp [State.sweep]

/-- A notice reaches the table alone (R100). -/
@[simp] theorem State.takeNotice_frame (n : Notice) :
    (s.takeNotice n).tb = s.tb ∧ (s.takeNotice n).cap = s.cap ∧ (s.takeNotice n).disp = s.disp ∧
    (s.takeNotice n).outs = s.outs ∧ (s.takeNotice n).trq = s.trq ∧ (s.takeNotice n).guard = s.guard ∧
    (s.takeNotice n).icu = s.icu ∧ (s.takeNotice n).sp = s.sp ∧ (s.takeNotice n).pins = s.pins ∧
    (s.takeNotice n).cyc = s.cyc ∧ (s.takeNotice n).resetLow = s.resetLow ∧ (s.takeNotice n).fresh = s.fresh ∧
    (s.takeNotice n).pending = s.pending := by
  unfold State.takeNotice; dsimp only; split <;> simp

/-- Notices reach the table alone (R100). -/
@[simp] theorem State.takeNoticeList_frame (ns : List Notice) :
    (ns.foldl State.takeNotice s).tb = s.tb ∧ (ns.foldl State.takeNotice s).cap = s.cap ∧
    (ns.foldl State.takeNotice s).disp = s.disp ∧ (ns.foldl State.takeNotice s).outs = s.outs ∧
    (ns.foldl State.takeNotice s).trq = s.trq ∧ (ns.foldl State.takeNotice s).guard = s.guard ∧
    (ns.foldl State.takeNotice s).icu = s.icu ∧ (ns.foldl State.takeNotice s).sp = s.sp ∧
    (ns.foldl State.takeNotice s).pins = s.pins ∧ (ns.foldl State.takeNotice s).cyc = s.cyc ∧
    (ns.foldl State.takeNotice s).resetLow = s.resetLow ∧ (ns.foldl State.takeNotice s).fresh = s.fresh ∧
    (ns.foldl State.takeNotice s).pending = s.pending := by
  induction ns generalizing s with
  | nil => simp
  | cons a as ih => simp [ih]

/-- The noted entries reach the table and their own note alone (R73, R102). -/
@[simp] theorem State.overtake_frame :
    (s.overtake).tb = s.tb ∧ (s.overtake).cap = s.cap ∧ (s.overtake).disp = s.disp ∧ (s.overtake).outs = s.outs ∧
    (s.overtake).trq = s.trq ∧ (s.overtake).guard = s.guard ∧ (s.overtake).icu = s.icu ∧ (s.overtake).sp = s.sp ∧
    (s.overtake).pins = s.pins ∧ (s.overtake).cyc = { s.cyc with earlySkips := .fill 32 false } ∧
    (s.overtake).resetLow = s.resetLow ∧ (s.overtake).fresh = s.fresh ∧ (s.overtake).pending = s.pending ∧
    (s.overtake).sched.staging = s.sched.staging ∧ (s.overtake).sched.view = s.sched.view := by simp [State.overtake]

/-- The note of an arming reaches the cycle's bookkeeping alone (R73, R102). -/
@[simp] theorem State.noteArming_frame (n : Fin 32) :
    (s.noteArming n).tb = s.tb ∧ (s.noteArming n).cap = s.cap ∧ (s.noteArming n).sched = s.sched ∧
    (s.noteArming n).disp = s.disp ∧ (s.noteArming n).outs = s.outs ∧ (s.noteArming n).trq = s.trq ∧
    (s.noteArming n).guard = s.guard ∧ (s.noteArming n).icu = s.icu ∧ (s.noteArming n).sp = s.sp ∧
    (s.noteArming n).pins = s.pins ∧ (s.noteArming n).cyc.frozen = s.cyc.frozen ∧
    (s.noteArming n).cyc.wrapDue = s.cyc.wrapDue ∧ (s.noteArming n).cyc.slewEndDue = s.cyc.slewEndDue ∧
    (s.noteArming n).cyc.notices = s.cyc.notices ∧ (s.noteArming n).cyc.decided = s.cyc.decided ∧
    (s.noteArming n).cyc.action = s.cyc.action ∧ (s.noteArming n).cyc.offers = s.cyc.offers ∧
    (s.noteArming n).resetLow = s.resetLow ∧ (s.noteArming n).fresh = s.fresh ∧
    (s.noteArming n).pending = s.pending := by simp [State.noteArming]

/-- The notices of a cycle reach the table, and what the cycle notes of them, alone (R100). -/
@[simp] theorem State.takeNotices_frame :
    (s.takeNotices).tb = s.tb ∧ (s.takeNotices).cap = s.cap ∧ (s.takeNotices).disp = s.disp ∧
    (s.takeNotices).outs = s.outs ∧ (s.takeNotices).trq = s.trq ∧ (s.takeNotices).guard = s.guard ∧
    (s.takeNotices).icu = s.icu ∧ (s.takeNotices).sp = s.sp ∧ (s.takeNotices).pins = s.pins ∧
    (s.takeNotices).resetLow = s.resetLow ∧ (s.takeNotices).fresh = s.fresh ∧ (s.takeNotices).pending = s.pending := by
  unfold State.takeNotices; split <;> simp

/-- A notice that is given waits (R24). -/
@[simp] theorem State.giveNotice_frame (b : Bool) :
    (s.giveNotice b).tb = s.tb ∧ (s.giveNotice b).cap = s.cap ∧ (s.giveNotice b).sched = s.sched ∧
    (s.giveNotice b).disp = s.disp ∧ (s.giveNotice b).outs = s.outs ∧ (s.giveNotice b).trq = s.trq ∧
    (s.giveNotice b).guard = s.guard ∧ (s.giveNotice b).icu = s.icu ∧ (s.giveNotice b).sp = s.sp ∧
    (s.giveNotice b).pins = s.pins ∧ (s.giveNotice b).resetLow = s.resetLow ∧ (s.giveNotice b).fresh = s.fresh ∧
    (s.giveNotice b).pending = s.pending := by simp [State.giveNotice]

/-- A notice reaches the table alone (R100, R102). -/
@[simp] theorem State.orderNotice_frame (order : NoticeOrder) :
    (s.orderNotice order).tb = s.tb ∧ (s.orderNotice order).cap = s.cap ∧ (s.orderNotice order).disp = s.disp ∧
    (s.orderNotice order).outs = s.outs ∧ (s.orderNotice order).trq = s.trq ∧
    (s.orderNotice order).guard = s.guard ∧ (s.orderNotice order).icu = s.icu ∧ (s.orderNotice order).sp = s.sp ∧
    (s.orderNotice order).pins = s.pins ∧ (s.orderNotice order).resetLow = s.resetLow ∧
    (s.orderNotice order).fresh = s.fresh ∧ (s.orderNotice order).pending = s.pending := by
  cases order <;> simp [State.orderNotice]

/-- A scheduling fault reaches SCH_FAULT and SFAULT alone (R108). -/
@[simp] theorem State.schedFault_frame (f : SchedFault) :
    (s.schedFault f).tb = s.tb ∧ (s.schedFault f).cap = s.cap ∧ (s.schedFault f).sched = s.sched ∧
    (s.schedFault f).outs = s.outs ∧ (s.schedFault f).trq = s.trq ∧ (s.schedFault f).guard = s.guard ∧
    (s.schedFault f).sp = s.sp ∧ (s.schedFault f).pins = s.pins ∧ (s.schedFault f).cyc = s.cyc ∧
    (s.schedFault f).resetLow = s.resetLow ∧ (s.schedFault f).fresh = s.fresh ∧
    (s.schedFault f).pending = s.pending := by simp [State.schedFault]

/-- An arming request reaches its entry, or SCH_FAULT and SFAULT (R51, R89). -/
@[simp] theorem State.requestArm_frame (n : Fin 32) (due : Nat) (miss : SchedFault) :
    ((s.requestArm n due miss).1).tb = s.tb ∧ ((s.requestArm n due miss).1).cap = s.cap ∧
    ((s.requestArm n due miss).1).outs = s.outs ∧ ((s.requestArm n due miss).1).trq = s.trq ∧
    ((s.requestArm n due miss).1).guard = s.guard ∧ ((s.requestArm n due miss).1).sp = s.sp ∧
    ((s.requestArm n due miss).1).pins = s.pins ∧ ((s.requestArm n due miss).1).cyc = s.cyc ∧
    ((s.requestArm n due miss).1).resetLow = s.resetLow ∧ ((s.requestArm n due miss).1).fresh = s.fresh ∧
    ((s.requestArm n due miss).1).pending = s.pending := by
  unfold State.requestArm; split
  · split <;> simp
  · simp

/-- A step of the time reaches the timebase and offers a record (R22, R23). -/
@[simp] theorem State.stepTime_frame (v : Ticks) (src : StepSource) (back : Bool) (a : Int) :
    (s.stepTime v src back a).cap = s.cap ∧ (s.stepTime v src back a).sched = s.sched ∧
    (s.stepTime v src back a).disp = s.disp ∧ (s.stepTime v src back a).outs = s.outs ∧
    (s.stepTime v src back a).trq = s.trq ∧ (s.stepTime v src back a).guard = s.guard ∧
    (s.stepTime v src back a).icu = s.icu ∧ (s.stepTime v src back a).sp = s.sp ∧
    (s.stepTime v src back a).pins = s.pins ∧ (s.stepTime v src back a).resetLow = s.resetLow ∧
    (s.stepTime v src back a).fresh = s.fresh ∧ (s.stepTime v src back a).pending = s.pending := by simp [State.stepTime]

/-- The end of a slew offers its record and raises TBEVT (R33). -/
@[simp] theorem State.offerSlewEnd_frame :
    (s.offerSlewEnd).tb = s.tb ∧ (s.offerSlewEnd).cap = s.cap ∧ (s.offerSlewEnd).sched = s.sched ∧
    (s.offerSlewEnd).disp = s.disp ∧ (s.offerSlewEnd).outs = s.outs ∧ (s.offerSlewEnd).trq = s.trq ∧
    (s.offerSlewEnd).guard = s.guard ∧ (s.offerSlewEnd).sp = s.sp ∧ (s.offerSlewEnd).pins = s.pins ∧
    (s.offerSlewEnd).resetLow = s.resetLow ∧ (s.offerSlewEnd).fresh = s.fresh ∧
    (s.offerSlewEnd).pending = s.pending := by
  unfold State.offerSlewEnd; split <;> simp

/-- The timebase's share of a wrap (R17). -/
@[simp] theorem State.applyWrap_frame :
    (s.applyWrap).cap = s.cap ∧ (s.applyWrap).sched = s.sched ∧ (s.applyWrap).disp = s.disp ∧
    (s.applyWrap).outs = s.outs ∧ (s.applyWrap).trq = s.trq ∧ (s.applyWrap).guard = s.guard ∧
    (s.applyWrap).sp = s.sp ∧ (s.applyWrap).pins = s.pins ∧ (s.applyWrap).resetLow = s.resetLow ∧
    (s.applyWrap).fresh = s.fresh ∧ (s.applyWrap).pending = s.pending := by simp [State.applyWrap]

/-- A wrap and its notice (R17, R100). -/
@[simp] theorem State.takeWrap_frame :
    (s.takeWrap).cap = s.cap ∧ (s.takeWrap).disp = s.disp ∧ (s.takeWrap).outs = s.outs ∧ (s.takeWrap).trq = s.trq ∧
    (s.takeWrap).guard = s.guard ∧ (s.takeWrap).sp = s.sp ∧ (s.takeWrap).pins = s.pins ∧
    (s.takeWrap).resetLow = s.resetLow ∧ (s.takeWrap).fresh = s.fresh ∧ (s.takeWrap).pending = s.pending := by
  unfold State.takeWrap; split <;> simp

/-- An edge-aligned load with its notice (R39, R100). -/
@[simp] theorem State.applyEdgeLoad_frame (w : EdgeWait) :
    (s.applyEdgeLoad w).cap = s.cap ∧ (s.applyEdgeLoad w).disp = s.disp ∧ (s.applyEdgeLoad w).outs = s.outs ∧
    (s.applyEdgeLoad w).trq = s.trq ∧ (s.applyEdgeLoad w).guard = s.guard ∧ (s.applyEdgeLoad w).sp = s.sp ∧
    (s.applyEdgeLoad w).pins = s.pins ∧ (s.applyEdgeLoad w).resetLow = s.resetLow ∧
    (s.applyEdgeLoad w).fresh = s.fresh ∧ (s.applyEdgeLoad w).pending = s.pending := by simp [State.applyEdgeLoad]

/-- A trigger reaches its target entry, or SCH_FAULT and SFAULT (R50). -/
@[simp] theorem State.triggerEdge_frame (n : Fin 6) (t : Ticks) (e : Epoch) :
    ((s.triggerEdge n t e).1).tb = s.tb ∧ ((s.triggerEdge n t e).1).cap = s.cap ∧
    ((s.triggerEdge n t e).1).outs = s.outs ∧ ((s.triggerEdge n t e).1).trq = s.trq ∧
    ((s.triggerEdge n t e).1).guard = s.guard ∧ ((s.triggerEdge n t e).1).sp = s.sp ∧
    ((s.triggerEdge n t e).1).pins = s.pins ∧ ((s.triggerEdge n t e).1).cyc = s.cyc ∧
    ((s.triggerEdge n t e).1).resetLow = s.resetLow ∧ ((s.triggerEdge n t e).1).fresh = s.fresh ∧
    ((s.triggerEdge n t e).1).pending = s.pending := by
  unfold State.triggerEdge; split
  · simp
  · split <;> simp

/-- The trigger and the record of an edge (R47). -/
@[simp] theorem State.finishEdge_frame (n : Fin 6) (b : Bool) (t : Ticks) (e : Epoch) (fr : Bool) :
    (s.finishEdge n b t e fr).tb = s.tb ∧ (s.finishEdge n b t e fr).cap = s.cap ∧
    (s.finishEdge n b t e fr).outs = s.outs ∧ (s.finishEdge n b t e fr).trq = s.trq ∧
    (s.finishEdge n b t e fr).guard = s.guard ∧ (s.finishEdge n b t e fr).sp = s.sp ∧
    (s.finishEdge n b t e fr).pins = s.pins ∧ (s.finishEdge n b t e fr).resetLow = s.resetLow ∧
    (s.finishEdge n b t e fr).fresh = s.fresh ∧ (s.finishEdge n b t e fr).pending = s.pending := by
  unfold State.finishEdge; dsimp only; split <;> simp

/-- A completed edge (R47). -/
@[simp] theorem State.completeEdge_frame (n : Fin 6) (c : Completion) :
    (s.completeEdge n c).cap = s.cap ∧ (s.completeEdge n c).outs = s.outs ∧ (s.completeEdge n c).trq = s.trq ∧
    (s.completeEdge n c).guard = s.guard ∧ (s.completeEdge n c).sp = s.sp ∧ (s.completeEdge n c).pins = s.pins ∧
    (s.completeEdge n c).resetLow = s.resetLow ∧ (s.completeEdge n c).fresh = s.fresh ∧
    (s.completeEdge n c).pending = s.pending := by
  unfold State.completeEdge; split
  · dsimp only; split <;> simp
  · simp

/-- A capture sample leaves outputs, queue, guard unit and port (R46, R47). -/
@[simp] theorem State.takeCapture_frame (n : Fin 6) :
    (s.takeCapture n).outs = s.outs ∧ (s.takeCapture n).trq = s.trq ∧ (s.takeCapture n).guard = s.guard ∧
    (s.takeCapture n).sp = s.sp ∧ (s.takeCapture n).pins = s.pins ∧ (s.takeCapture n).resetLow = s.resetLow ∧
    (s.takeCapture n).fresh = s.fresh ∧ (s.takeCapture n).pending = s.pending := by
  unfold State.takeCapture; split
  · dsimp only; split <;> simp
  · simp

/-- A trip reaches the outputs and the hold set (R153). -/
@[simp] theorem State.trip_frame :
    (s.trip).tb = s.tb ∧ (s.trip).cap = s.cap ∧ (s.trip).sched = s.sched ∧ (s.trip).trq = s.trq ∧
    (s.trip).icu = s.icu ∧ (s.trip).sp = s.sp ∧ (s.trip).pins = s.pins ∧ (s.trip).cyc = s.cyc ∧
    (s.trip).resetLow = s.resetLow ∧ (s.trip).fresh = s.fresh ∧ (s.trip).pending = s.pending := by simp [State.trip]

/-- An activation (R152). -/
@[simp] theorem State.activate_frame (n : Fin 2) :
    (s.activate n).tb = s.tb ∧ (s.activate n).cap = s.cap ∧ (s.activate n).sched = s.sched ∧
    (s.activate n).trq = s.trq ∧ (s.activate n).sp = s.sp ∧ (s.activate n).pins = s.pins ∧
    (s.activate n).resetLow = s.resetLow ∧ (s.activate n).fresh = s.fresh ∧ (s.activate n).pending = s.pending := by
  unfold State.activate; dsimp only; split <;> simp

/-- A guard sample (R149). -/
@[simp] theorem State.sampleGuard_frame (n : Fin 2) :
    (s.sampleGuard n).tb = s.tb ∧ (s.sampleGuard n).cap = s.cap ∧ (s.sampleGuard n).sched = s.sched ∧
    (s.sampleGuard n).trq = s.trq ∧ (s.sampleGuard n).sp = s.sp ∧ (s.sampleGuard n).pins = s.pins ∧
    (s.sampleGuard n).resetLow = s.resetLow ∧ (s.sampleGuard n).fresh = s.fresh ∧
    (s.sampleGuard n).pending = s.pending := by
  unfold State.sampleGuard; dsimp only; split
  · split <;> simp
  · simp

/-- The guard samples of a cycle leave timebase, capture lines, table, queue and port (R149). -/
@[simp] theorem State.takeGuard_frame :
    (s.takeGuard).tb = s.tb ∧ (s.takeGuard).cap = s.cap ∧ (s.takeGuard).sched = s.sched ∧
    (s.takeGuard).trq = s.trq ∧ (s.takeGuard).sp = s.sp ∧ (s.takeGuard).pins = s.pins ∧
    (s.takeGuard).resetLow = s.resetLow ∧ (s.takeGuard).fresh = s.fresh ∧ (s.takeGuard).pending = s.pending := by
  unfold State.takeGuard; split <;> simp

/-- A link reaches its target entry, or SCH_FAULT and SFAULT (R89). -/
@[simp] theorem State.followLink_frame (i : Fin 32) (p : Plan) :
    ((s.followLink i p).1).tb = s.tb ∧ ((s.followLink i p).1).cap = s.cap ∧ ((s.followLink i p).1).outs = s.outs ∧
    ((s.followLink i p).1).trq = s.trq ∧ ((s.followLink i p).1).guard = s.guard ∧
    ((s.followLink i p).1).sp = s.sp ∧ ((s.followLink i p).1).pins = s.pins ∧
    ((s.followLink i p).1).cyc.frozen = s.cyc.frozen ∧ ((s.followLink i p).1).cyc.wrapDue = s.cyc.wrapDue ∧
    ((s.followLink i p).1).cyc.slewEndDue = s.cyc.slewEndDue ∧ ((s.followLink i p).1).cyc.notices = s.cyc.notices ∧
    ((s.followLink i p).1).cyc.decided = s.cyc.decided ∧ ((s.followLink i p).1).cyc.action = s.cyc.action ∧
    ((s.followLink i p).1).cyc.offers = s.cyc.offers ∧
    ((s.followLink i p).1).resetLow = s.resetLow ∧ ((s.followLink i p).1).fresh = s.fresh ∧
    ((s.followLink i p).1).pending = s.pending := by
  unfold State.followLink
  split
  · simp
  · dsimp only; split <;> simp

/-- A dispatch (R87). -/
@[simp] theorem State.fire_frame (order : ActionOrder) (i : Fin 32) (p : Plan) (k : Kept) (late : Bool) :
    (s.fire order i p k late).tb = s.tb ∧ (s.fire order i p k late).cap = s.cap ∧
    (s.fire order i p k late).trq = s.trq ∧ (s.fire order i p k late).guard = s.guard ∧
    (s.fire order i p k late).sp = s.sp ∧ (s.fire order i p k late).pins = s.pins ∧
    (s.fire order i p k late).resetLow = s.resetLow ∧ (s.fire order i p k late).fresh = s.fresh ∧
    (s.fire order i p k late).pending = s.pending := by
  unfold State.fire; dsimp only; split <;> simp

/-- A dispatch (R86). -/
@[simp] theorem State.dispatchHead_frame (order : ActionOrder) :
    (s.dispatchHead order).tb = s.tb ∧ (s.dispatchHead order).cap = s.cap ∧ (s.dispatchHead order).trq = s.trq ∧
    (s.dispatchHead order).guard = s.guard ∧ (s.dispatchHead order).sp = s.sp ∧
    (s.dispatchHead order).pins = s.pins ∧ (s.dispatchHead order).resetLow = s.resetLow ∧
    (s.dispatchHead order).fresh = s.fresh ∧ (s.dispatchHead order).pending = s.pending := by
  unfold State.dispatchHead; split
  · simp
  · split <;> simp

/-- A dispatch decision leaves timebase, capture lines, queue, guard unit and port (R86, R87). -/
@[simp] theorem State.takeDispatch_frame (order : ActionOrder) :
    (s.takeDispatch order).tb = s.tb ∧ (s.takeDispatch order).cap = s.cap ∧ (s.takeDispatch order).trq = s.trq ∧
    (s.takeDispatch order).guard = s.guard ∧ (s.takeDispatch order).sp = s.sp ∧
    (s.takeDispatch order).pins = s.pins ∧ (s.takeDispatch order).resetLow = s.resetLow ∧
    (s.takeDispatch order).fresh = s.fresh ∧ (s.takeDispatch order).pending = s.pending := by
  unfold State.takeDispatch; split <;> simp

/-- A pulse end reaches its line alone (R119). -/
@[simp] theorem State.endPulse_frame (n : Fin 8) :
    (s.endPulse n).tb = s.tb ∧ (s.endPulse n).cap = s.cap ∧ (s.endPulse n).sched = s.sched ∧
    (s.endPulse n).disp = s.disp ∧ (s.endPulse n).trq = s.trq ∧ (s.endPulse n).guard = s.guard ∧
    (s.endPulse n).icu = s.icu ∧ (s.endPulse n).sp = s.sp ∧ (s.endPulse n).pins = s.pins ∧
    (s.endPulse n).cyc = s.cyc ∧ (s.endPulse n).resetLow = s.resetLow ∧ (s.endPulse n).fresh = s.fresh ∧
    (s.endPulse n).pending = s.pending := by simp [State.endPulse]

/-- Pulse ends reach their lines alone (R119). -/
@[simp] theorem State.endPulses_frame :
    (s.endPulses).tb = s.tb ∧ (s.endPulses).cap = s.cap ∧ (s.endPulses).sched = s.sched ∧
    (s.endPulses).disp = s.disp ∧ (s.endPulses).trq = s.trq ∧ (s.endPulses).guard = s.guard ∧
    (s.endPulses).icu = s.icu ∧ (s.endPulses).sp = s.sp ∧ (s.endPulses).pins = s.pins ∧ (s.endPulses).cyc = s.cyc ∧
    (s.endPulses).resetLow = s.resetLow ∧ (s.endPulses).fresh = s.fresh ∧ (s.endPulses).pending = s.pending := by simp [State.endPulses]

/-- The end of a trim window reaches the timebase alone (R13). -/
@[simp] theorem State.endWindow_frame :
    (s.endWindow).cap = s.cap ∧ (s.endWindow).sched = s.sched ∧ (s.endWindow).disp = s.disp ∧
    (s.endWindow).outs = s.outs ∧ (s.endWindow).trq = s.trq ∧ (s.endWindow).guard = s.guard ∧
    (s.endWindow).icu = s.icu ∧ (s.endWindow).sp = s.sp ∧ (s.endWindow).pins = s.pins ∧ (s.endWindow).cyc = s.cyc ∧
    (s.endWindow).resetLow = s.resetLow ∧ (s.endWindow).fresh = s.fresh ∧ (s.endWindow).pending = s.pending := by simp [State.endWindow]

/-- A fetch reaches the port alone (R171). -/
@[simp] theorem State.fetch_frame :
    (s.fetch).tb = s.tb ∧ (s.fetch).cap = s.cap ∧ (s.fetch).sched = s.sched ∧ (s.fetch).disp = s.disp ∧
    (s.fetch).outs = s.outs ∧ (s.fetch).trq = s.trq ∧ (s.fetch).guard = s.guard ∧ (s.fetch).icu = s.icu ∧
    (s.fetch).pins = s.pins ∧ (s.fetch).cyc = s.cyc ∧ (s.fetch).resetLow = s.resetLow ∧
    (s.fetch).pending = s.pending := by
  unfold State.fetch; split <;> simp

/-- The pins are a view (R115). -/
@[simp] theorem State.refreshPins_frame :
    (s.refreshPins).tb = s.tb ∧ (s.refreshPins).cap = s.cap ∧ (s.refreshPins).sched = s.sched ∧
    (s.refreshPins).disp = s.disp ∧ (s.refreshPins).outs = s.outs ∧ (s.refreshPins).trq = s.trq ∧
    (s.refreshPins).guard = s.guard ∧ (s.refreshPins).icu = s.icu ∧ (s.refreshPins).sp = s.sp ∧
    (s.refreshPins).cyc = s.cyc ∧ (s.refreshPins).resetLow = s.resetLow ∧ (s.refreshPins).fresh = s.fresh ∧
    (s.refreshPins).pending = s.pending := by simp [State.refreshPins]

/-- MISO is at high impedance while CS_N is high, and otherwise as the transaction says (R170). -/
@[simp] theorem State.miso_high (h : s.pins.now.csLow = false) : s.miso = .highZ := by simp [State.miso, h]

@[simp] theorem State.miso_idle (h : s.sp.tx = .idle) : s.miso = .highZ := by simp [State.miso, h]

/-- Capture samples leave outputs, queue, guard unit and port. -/
@[simp] theorem State.takeCaptures_frame (ns : List (Fin 6)) :
    (ns.foldl (fun s n => s.takeCapture n) s).outs = s.outs ∧
    (ns.foldl (fun s n => s.takeCapture n) s).trq = s.trq ∧
    (ns.foldl (fun s n => s.takeCapture n) s).guard = s.guard ∧
    (ns.foldl (fun s n => s.takeCapture n) s).sp = s.sp ∧ (ns.foldl (fun s n => s.takeCapture n) s).pins = s.pins ∧
    (ns.foldl (fun s n => s.takeCapture n) s).resetLow = s.resetLow ∧
    (ns.foldl (fun s n => s.takeCapture n) s).fresh = s.fresh ∧
    (ns.foldl (fun s n => s.takeCapture n) s).pending = s.pending := by
  induction ns generalizing s with
  | nil => simp
  | cons a as ih => simp [ih]

/-- The samples of a cycle leave queue and port. -/
@[simp] theorem State.takeSamples_frame :
    (s.takeSamples).trq = s.trq ∧ (s.takeSamples).sp = s.sp ∧ (s.takeSamples).pins = s.pins ∧
    (s.takeSamples).resetLow = s.resetLow ∧ (s.takeSamples).fresh = s.fresh ∧ (s.takeSamples).pending = s.pending := by simp [State.takeSamples]

/-- The end of a cycle moves neither RESET_N nor the queue of commands. -/
@[simp] theorem State.endCycle_frame :
    (s.endCycle).resetLow = s.resetLow ∧ (s.endCycle).pending = s.pending := by simp [State.endCycle]

/-- What every cycle moves (R45, R119, R148, R170). -/
@[simp] theorem State.tick_frame (pins : InputPins) (fr : Bool) :
    (s.tick pins fr).tb = s.tb ∧ (s.tick pins fr).sched = s.sched ∧ (s.tick pins fr).disp = s.disp ∧
    (s.tick pins fr).trq = s.trq ∧ (s.tick pins fr).icu = s.icu ∧ (s.tick pins fr).resetLow = s.resetLow ∧
    (s.tick pins fr).pending = s.pending := by simp [State.tick]

/-- A counting cycle begins (R5). -/
@[simp] theorem State.beginCounting_frame (pins : InputPins) (order : EndOrder) :
    (s.beginCounting pins order).sched = s.sched ∧ (s.beginCounting pins order).disp = s.disp ∧
    (s.beginCounting pins order).trq = s.trq ∧ (s.beginCounting pins order).resetLow = s.resetLow ∧
    (s.beginCounting pins order).pending = s.pending := by
  unfold State.beginCounting; dsimp only; split
  · split <;> simp
  · simp

/-- A frozen cycle begins (R6). -/
@[simp] theorem State.beginFrozen_frame (pins : InputPins) :
    (s.beginFrozen pins).tb = s.tb ∧ (s.beginFrozen pins).sched = s.sched ∧ (s.beginFrozen pins).disp = s.disp ∧
    (s.beginFrozen pins).trq = s.trq ∧ (s.beginFrozen pins).icu = s.icu ∧
    (s.beginFrozen pins).resetLow = s.resetLow ∧ (s.beginFrozen pins).pending = s.pending := by simp [State.beginFrozen]

/-- A decision that is spent (R76). -/
@[simp] theorem State.spendDecision_frame (b : Bool) :
    (s.spendDecision b).tb = s.tb ∧ (s.spendDecision b).cap = s.cap ∧ (s.spendDecision b).sched = s.sched ∧
    (s.spendDecision b).disp = s.disp ∧ (s.spendDecision b).outs = s.outs ∧ (s.spendDecision b).trq = s.trq ∧
    (s.spendDecision b).guard = s.guard ∧ (s.spendDecision b).icu = s.icu ∧ (s.spendDecision b).sp = s.sp ∧
    (s.spendDecision b).pins = s.pins ∧ (s.spendDecision b).resetLow = s.resetLow ∧
    (s.spendDecision b).fresh = s.fresh ∧ (s.spendDecision b).pending = s.pending := by
  unfold State.spendDecision; split <;> simp

/-- The sweep of the emptied hold set, or the notice that makes it (R107). -/
@[simp] theorem State.sweepFree_frame :
    (s.sweepFree).outs = s.outs ∧ (s.sweepFree).trq = s.trq ∧ (s.sweepFree).guard = s.guard ∧
    (s.sweepFree).sp = s.sp ∧ (s.sweepFree).pins = s.pins ∧ (s.sweepFree).resetLow = s.resetLow ∧
    (s.sweepFree).fresh = s.fresh ∧ (s.sweepFree).pending = s.pending := by
  unfold State.sweepFree; split
  · simp
  · split <;> simp

/-- Offers before a soft reset reach the queue and QLOSS alone (R146). -/
@[simp] theorem State.offersBeforeReset_frame (order : ResetOrder) :
    (s.offersBeforeReset order).tb = s.tb ∧ (s.offersBeforeReset order).cap = s.cap ∧
    (s.offersBeforeReset order).sched = s.sched ∧ (s.offersBeforeReset order).disp = s.disp ∧
    (s.offersBeforeReset order).outs = s.outs ∧ (s.offersBeforeReset order).guard = s.guard ∧
    (s.offersBeforeReset order).sp = s.sp ∧ (s.offersBeforeReset order).pins = s.pins ∧
    (s.offersBeforeReset order).resetLow = s.resetLow ∧ (s.offersBeforeReset order).fresh = s.fresh ∧
    (s.offersBeforeReset order).pending = s.pending := by
  cases order <;> simp [State.offersBeforeReset]

/-- The offers made in a pin reset and the guard samples before them (R169). -/
@[simp] theorem State.drainInReset_frame :
    (s.drainInReset).tb = s.tb ∧ (s.drainInReset).cap = s.cap ∧ (s.drainInReset).sched = s.sched ∧
    (s.drainInReset).sp = s.sp ∧ (s.drainInReset).pins = s.pins ∧ (s.drainInReset).resetLow = s.resetLow ∧
    (s.drainInReset).fresh = s.fresh ∧ (s.drainInReset).pending = s.pending := by
  unfold State.drainInReset; split <;> simp

/-- The pointer steps and nothing else changes (R172). -/
@[simp] theorem State.stepWrite_frame (a : Addr) :
    (s.stepWrite a).tb = s.tb ∧ (s.stepWrite a).cap = s.cap ∧ (s.stepWrite a).sched = s.sched ∧
    (s.stepWrite a).disp = s.disp ∧ (s.stepWrite a).outs = s.outs ∧ (s.stepWrite a).trq = s.trq ∧
    (s.stepWrite a).guard = s.guard ∧ (s.stepWrite a).icu = s.icu ∧ (s.stepWrite a).pins = s.pins ∧
    (s.stepWrite a).cyc = s.cyc ∧ (s.stepWrite a).resetLow = s.resetLow ∧ (s.stepWrite a).fresh = s.fresh ∧
    (s.stepWrite a).pending = s.pending := by
  unfold State.stepWrite; split
  · split <;> simp
  · simp

/-- The cancellation of an edge-aligned load reaches the timebase and TBEVT (R41). -/
@[simp] theorem State.cancelIfDisabled_frame :
    (s.cancelIfDisabled).cap = s.cap ∧ (s.cancelIfDisabled).sched = s.sched ∧ (s.cancelIfDisabled).disp = s.disp ∧
    (s.cancelIfDisabled).outs = s.outs ∧ (s.cancelIfDisabled).trq = s.trq ∧ (s.cancelIfDisabled).guard = s.guard ∧
    (s.cancelIfDisabled).sp = s.sp ∧ (s.cancelIfDisabled).pins = s.pins ∧ (s.cancelIfDisabled).cyc = s.cyc ∧
    (s.cancelIfDisabled).resetLow = s.resetLow ∧ (s.cancelIfDisabled).fresh = s.fresh ∧
    (s.cancelIfDisabled).pending = s.pending := by
  unfold State.cancelIfDisabled; split
  · split <;> simp [State.setTbState]
  · simp

end Sys2Proof.Machine
end

