-- ==== Sys2Proof/Laws/Operations.lean ====
section
/-! SUPPORT. For a shared operation, one lemma that says once what it does, for later proofs to cite instead of unfolding
the operation. -/

namespace Sys2Proof.Machine

/-! ## Flags and results -/

/-- A raise while RESET_N is high sets its flag and nothing else (R162). -/
theorem State.raise_eq (f : Flag) (s : State) (h : s.resetLow = false) :
    s.raise f = { s with icu := { s.icu with flags := s.icu.flags.set f } } := by
  simp [State.raise, h, State.setIcu]

/-- While RESET_N is low the ICU keeps no raise (R169). -/
theorem State.raise_low (f : Flag) (s : State) (h : s.resetLow = true) : s.raise f = s := by
  simp [State.raise, h]

/-- A raise never clears a flag (R162). -/
theorem State.raise_keeps (f g : Flag) (s : State) (h : s.icu.flags.get g = true) :
    (s.raise f).icu.flags.get g = true := by
  unfold State.raise
  split
  · exact h
  · cases f <;> cases g <;> simp_all [Flags.set, Flags.get]

/-- A raise while RESET_N is high leaves its flag set. -/
theorem State.raise_sets (f : Flag) (s : State) (h : s.resetLow = false) :
    (s.raise f).icu.flags.get f = true := by
  rw [State.raise_eq f s h]; cases f <;> rfl

@[simp] theorem State.raiseIf_true (f : Flag) (s : State) : s.raiseIf true f = s.raise f := rfl

@[simp] theorem State.raiseIf_false (f : Flag) (s : State) : s.raiseIf false f = s := rfl

/-- While RESET_N is low the port takes no byte (R178). -/
theorem State.takesBytes_low (s : State) (h : s.resetLow = true) : s.takesBytes = false := by
  simp [State.takesBytes, h]

/-- A port that takes bytes is out of the pin reset (R178). -/
theorem State.takesBytes_high (s : State) (h : s.takesBytes = true) : s.resetLow = false := by
  cases hr : s.resetLow
  · rfl
  · simp [State.takesBytes_low s hr] at h

/-- A strobe byte that the port does not take reaches no block (R177, R178). -/
theorem State.command_ignored (strobe : Byte) (owner : State → State × ResultCode) (s : State)
    (h : s.takesBytes = false) : s.command strobe owner = s := by
  simp [State.command, h]

/-- A strobe byte: its owner's answer, with the result recorded (R165). -/
theorem State.command_eq (strobe : Byte) (owner : State → State × ResultCode) (s : State)
    (h : s.takesBytes = true) (h' : (owner s).1.resetLow = false) :
    s.command strobe owner = (owner s).1.answered strobe (owner s).2 := by
  simp only [State.command, h, State.setResult, State.raiseIf, State.answered, State.setIcu, State.raise]
  simp [h', Flags.set]
  split <;> simp_all

/-! ## Offers -/

/-- The offers after one more are that one and those before. -/
theorem mem_insertOffer (o x : Offer) (os : List Offer) : x ∈ insertOffer o os ↔ x = o ∨ x ∈ os := by
  induction os with
  | nil => simp [insertOffer]
  | cons p ps ih =>
    unfold insertOffer
    split
    · simp
    · simp [ih, or_left_comm]

/-- One more offer is one more. -/
@[simp] theorem length_insertOffer (o : Offer) (os : List Offer) :
    (insertOffer o os).length = os.length + 1 := by
  induction os with
  | nil => rfl
  | cons p ps ih => unfold insertOffer; split <;> simp [ih]

/-- A cycle without offers leaves the queue as it is. -/
theorem State.drainAll_nil (s : State) (h : s.cyc.offers = []) : s.drainAll = s := by
  have hc : { s.cyc with offers := [] } = s.cyc := by rw [← h]
  simp [State.drainAll, h, hc]

/-- With no offer waiting, the port takes none. -/
theorem State.drainReady_nil (s : State) (h : s.cyc.offers = []) : s.drainReady = s := by
  have hc : { s.cyc with offers := [] } = s.cyc := by rw [← h]
  simp [State.drainReady, h, hc]

/-! ## Time of the cycle -/

/-- Where neither a wrap nor an edge-aligned load is still to be taken, the timebase presents what it holds (R2). -/
theorem State.presented_eq (s : State) (hw : s.cyc.wrapDue = false) (he : s.edgeLoadDue = none) :
    s.presented = s.tb := by
  simp [State.presented, hw, he]

/-- Before a wrap is taken, the cycle presents its epoch already (R2, R17). -/
theorem State.presented_wraps (s : State) (h : s.wraps = true) :
    s.presented = { s.tb with epoch := s.tb.epoch + 1 } := by
  unfold State.wraps at h
  cases he : s.edgeLoadDue <;> simp_all [State.presented]

/-- Before the awaited sample is taken, the completion cycle presents the loaded time already (R2, R22, R38). -/
theorem State.presented_edgeLoad (s : State) (w : EdgeWait) (h : s.edgeLoadDue = some w) :
    s.presented = { s.tb with state := .running, time := s.edgeLoadTime w, epoch := s.tb.epoch + 1 } := by
  simp [State.presented, h]

/-- An edge-aligned load is due exactly where the timebase waits for a line whose sample of this cycle completes an edge
(R38). -/
theorem State.edgeLoadDue_iff (s : State) (w : EdgeWait) :
    s.edgeLoadDue = some w ↔ s.tb.state = .awaitEdge w ∧ s.completesEdge w.line = true := by
  unfold State.edgeLoadDue
  cases s.tb.state <;> simp
  constructor
  · rintro ⟨h, rfl⟩; exact ⟨rfl, h⟩
  · rintro ⟨rfl, h⟩; exact ⟨h, rfl⟩

/-- The step of the time value, with its record (R22, R23). -/
theorem State.stepTime_eq (v : Ticks) (src : StepSource) (back : Bool) (a : Int) (s : State) :
    s.stepTime v src back a =
      { s with
        tb := { s.tb with time := v, epoch := s.tb.epoch + 1 }
        cyc := { s.cyc with
          wrapDue := false
          offers := insertOffer { time := v, epoch := s.tb.epoch + 1, body := .step src back a } s.cyc.offers } } := rfl

/-- A notice waits behind those given before it (R24). -/
theorem State.giveNotice_eq (sweep : Bool) (s : State) :
    s.giveNotice sweep =
      { s with cyc := { s.cyc with notices :=
        s.cyc.notices ++ [{ epoch := s.tb.epoch, time := s.tb.time, sweep := sweep }] } } := rfl

/-- Without a notice there is nothing to take. -/
theorem State.takeNotices_nil (s : State) (h : s.cyc.notices = []) : s.takeNotices = s := by
  simp [State.takeNotices, h]

/-- One notice taken alone, after the noted entries (R73, R100, R102). -/
theorem State.takeNotices_one (s : State) (n : Notice) (h : s.cyc.notices = [n]) :
    s.takeNotices =
      (s.overtake.setCyc { s.cyc with notices := [], earlySkips := .fill 32 false }).takeNotice n := by
  simp [State.takeNotices, h]

/-! ## Events still to be taken -/

/-- Without a slew end that waits, none is offered (R33). -/
theorem State.offerSlewEnd_none (s : State) (h : s.cyc.slewEndDue = none) : s.offerSlewEnd = s := by
  simp [State.offerSlewEnd, h]

/-- Where no wrap and no notice is still to be taken, the wrap of the cycle takes nothing. -/
theorem State.takeWrap_nothing (s : State) (hw : s.wraps = false) (hn : s.cyc.notices = []) : s.takeWrap = s := by
  simp [State.takeWrap, hw, State.takeNotices_nil s hn]

/-- Where no guard sample is due, none is taken (R148). -/
theorem State.takeGuard_nothing (s : State) (h : s.guardDue = false) : s.takeGuard = s := by
  simp [State.takeGuard, h]

/-- The entry that the decision of the cycle dispatches: with the hold set empty, the head of the due queue where it is due
(R86). -/
theorem State.dispatchable_iff (s : State) (i : Fin 32) :
    s.dispatchable = some i ↔ s.disp.free = true ∧ dueHead s.sched.entries = some i ∧
      ∃ p k late, s.entry i = .armed p k late ∧ p.due ≤ s.presented.time := by
  unfold State.dispatchable
  by_cases hf : s.disp.free = true <;> simp only [hf, if_true, true_and, Bool.false_eq_true, if_false, false_and,
    Option.filter_eq_some_iff]
  · refine and_congr_right fun _ => ?_
    cases s.entry i <;> simp
  · simp

/-- A decision already taken in the cycle dispatches nothing (R86). -/
theorem State.takeDispatch_decided (order : ActionOrder) (s : State) (h : s.cyc.decided = true) :
    s.takeDispatch order = s := by
  simp [State.takeDispatch, h]

/-- The sweep of an emptied hold set against the time that the cycle presents, where no sweep is still to come (R105, R106). -/
theorem State.sweepFree_now (s : State) (he : s.edgeLoadDue = none) (hn : s.cyc.notices.any Notice.sweep = false) :
    s.sweepFree = s.sweep s.presented.time := by
  simp [State.sweepFree, he, hn]

/-- Where a notice with a sweep waits, it makes the sweep of an emptied hold set (R107). -/
theorem State.sweepFree_notice (s : State) (he : s.edgeLoadDue = none)
    (hn : s.cyc.notices.any Notice.sweep = true) : s.sweepFree = s.takeNotices := by
  simp [State.sweepFree, he, hn]

/-- Where the awaited sample waits, its edge-aligned load makes the sweep of an emptied hold set (R107). -/
theorem State.sweepFree_edgeLoad (s : State) (w : EdgeWait) (he : s.edgeLoadDue = some w) :
    s.sweepFree = s.takeCapture w.line := by
  simp [State.sweepFree, he]

/-! ## Entries -/

/-- Entry `m` after entry `n` is replaced. -/
theorem State.entry_setEntry (n m : Fin 32) (e : Entry) (s : State) :
    (s.setEntry n e).entry m = if n = m then e else s.entry m := by
  simp [State.entry, State.setEntry, Bank.get_set]

/-- Entry `m` after every entry is changed. -/
@[simp] theorem State.entry_mapEntries (f : Entry → Entry) (m : Fin 32) (s : State) :
    (s.mapEntries f).entry m = f (s.entry m) := by
  simp [State.entry, State.mapEntries]

/-- Entry `m` after the noted entries have been made STALE (R73, R102). -/
@[simp] theorem State.entry_overtake (m : Fin 32) (s : State) :
    (s.overtake).entry m = if s.cyc.earlySkips.get m then (s.entry m).overtaken else s.entry m := by
  simp [State.overtake, State.entry]

/-- The sweep examines each entry (R95). -/
theorem State.entry_sweep (t : Ticks) (m : Fin 32) (s : State) : (s.sweep t).entry m = (s.entry m).treat t :=
  State.entry_mapEntries _ m s

/-- The answer of a link or trigger request: no miss exactly where the target is PARKED and the due time can be named
(R50, R89). -/
theorem State.requestArm_miss (n : Fin 32) (due : Nat) (miss : SchedFault) (s : State) :
    (s.requestArm n due miss).2 = false ↔ (∃ p k, s.entry n = .parked p k) ∧ due < Config.timeModulus := by
  unfold State.requestArm
  cases s.entry n <;> simp
  split <;> simp_all

/-- A request that misses is recorded as a fault (R108). -/
theorem State.requestArm_missed (n : Fin 32) (due : Nat) (miss : SchedFault) (s : State)
    (h : (s.requestArm n due miss).2 = true) : (s.requestArm n due miss).1 = s.schedFault miss := by
  unfold State.requestArm at *
  cases hn : s.entry n <;> simp only [hn] at h ⊢
  split at h
  · cases h
  · rw [if_neg ‹_›]

/-- A request that arms its target does nothing else (R72). -/
theorem State.requestArm_armed (n : Fin 32) (due : Nat) (miss : SchedFault) (s : State) (p : Plan) (k : Kept)
    (hn : s.entry n = .parked p k) (hd : due < Config.timeModulus) :
    s.requestArm n due miss = (s.setEntry n (armParked s.presented.time s.presented.epoch due p k), false) := by
  simp [State.requestArm, hn, hd]

/-- An entry that is not ARMED is not examined (R95). -/
theorem Entry.treat_idle (t : Ticks) (e : Entry) (h : e.isArmed = false) : e.treat t = e := by
  cases e <;> simp_all [Entry.treat, Entry.isArmed]

/-- The notice makes an epoch-bound ARMED entry DONE STALE (R101), also where it sweeps (R95). -/
theorem State.takeNotice_bound (s : State) (x : Notice) (m : Fin 32) (p : Plan) (k : Kept) (late : Bool)
    (he : s.entry m = .armed p k late) (hb : p.epochBound = true) :
    (s.takeNotice x).entry m = .done .stale p k := by
  unfold State.takeNotice
  dsimp only
  split <;> simp [State.entry_sweep, State.entry_mapEntries, he, Entry.stale, hb, Entry.finish, Entry.unmark, Entry.treat]

/-- `satAdd` as a number (R63). -/
theorem satAdd_toNat (c : Count) (n : Nat) : (satAdd c n).toNat = min (c.toNat + n) 65535 := by
  simp only [satAdd, BitVec.toNat_ofNat]; omega

/-- `stepsPast` is the smallest number of steps from 1 upward that passes t (R92, R98). -/
theorem stepsPast_spec (t d p : Nat) (hp : 0 < p) (hd : d ≤ t) :
    t < d + stepsPast t d p * p ∧ ∀ j, 1 ≤ j → j < stepsPast t d p → d + j * p ≤ t := by
  unfold stepsPast
  constructor
  · have := Nat.lt_mul_div_succ (t - d) hp
    rw [Nat.mul_comm]; omega
  · intro j _ hj
    have h1 : j * p ≤ (t - d) / p * p := Nat.mul_le_mul_right p (by omega)
    have h2 := Nat.div_mul_le_self (t - d) p
    omega

/-! ## Output lines -/

/-- An order to go safe, line by line (R122). -/
theorem goSafe_get (safe : Bank SafeLevel 8) (outs : Bank OutLine 8) (n : Fin 8) :
    (goSafe safe outs).get n = (outs.get n).force ((safe.get n).apply (outs.get n).level) := by
  simp [goSafe]

/-- An action that has been handed over is gone from the cycle. -/
@[simp] theorem State.deliverAction_none (s : State) : s.deliverAction.cyc.action = none := by
  unfold State.deliverAction
  cases h : s.cyc.action <;> simp [h]

/-- Where no action waits there is none to take. -/
theorem State.deliverAction_nothing (s : State) (h : s.cyc.action = none) : s.deliverAction = s := by
  simp [State.deliverAction, h]

/-! ## Data bytes -/

/-- A register write that the port does not take changes nothing (R170, R178). -/
theorem State.writeAt_ignored (addr : Addr) (owner : State → State) (s : State) (h : s.takesBytes = false) :
    s.writeAt addr owner = s := by
  simp [State.writeAt, h]

/-- The same for a register of a page. -/
theorem State.writePaged_ignored (page : Fin 3) (addr : Addr) (owner : State → State) (s : State)
    (h : s.takesBytes = false) : s.writePaged page addr owner = s := by
  simp [State.writePaged, h]

/-- A write of a register of a page: its owner takes the byte, and the pointer steps where that page is selected (R172,
R173). -/
theorem State.writePaged_eq (page : Fin 3) (addr : Addr) (owner : State → State) (s : State)
    (h : s.takesBytes = true) (hp : (owner s).sp.page = s.sp.page) :
    s.writePaged page addr owner = (owner s).past page addr := by
  simp [State.writePaged, State.past, h, hp]

/-- A bit of 255 is set exactly below bit 8. -/
theorem getLsbD_255 (w k : Nat) : (255#w).getLsbD k = (decide (k < 8) && decide (k < w)) := by
  rw [BitVec.getLsbD_ofNat, (by decide : 255 = 2 ^ 8 - 1), Nat.testBit_two_pow_sub_one, Bool.and_comm]

/-- Reading back the byte that was replaced. -/
theorem byteOf_withByte_same (n i : Nat) (b : Byte) {w : Nat} (x : BitVec w) (h : 8 * (n - 1 - i) + 8 ≤ w) :
    byteOf n i (withByte n i b x) = b := by
  apply BitVec.eq_of_getLsbD_eq
  intro k hk
  simp only [byteOf, withByte]
  generalize 8 * (n - 1 - i) = a at *
  have h1 : a + k < w := by omega
  have h2 : k < w := by omega
  simp [getLsbD_255, hk, h1, h2]

/-- Reading another byte than the one that was replaced. -/
theorem byteOf_withByte_ne (n i j : Nat) (b : Byte) {w : Nat} (x : BitVec w) (hi : i < n) (hj : j < n) (h : i ≠ j) :
    byteOf n j (withByte n i b x) = byteOf n j x := by
  apply BitVec.eq_of_getLsbD_eq
  intro k hk
  simp only [byteOf, withByte]
  have hd : 8 * (n - 1 - i) + 8 ≤ 8 * (n - 1 - j) ∨ 8 * (n - 1 - j) + 8 ≤ 8 * (n - 1 - i) := by omega
  generalize 8 * (n - 1 - i) = a at *
  generalize 8 * (n - 1 - j) = c at *
  by_cases hw : c + k < w
  · by_cases hlt : c + k < a
    · simp [hk, hw, hlt]
    · have h8 : ¬c + k - a < 8 := by omega
      have hb := BitVec.getLsbD_of_ge b (c + k - a) (by omega)
      simp only [BitVec.getLsbD_setWidth, BitVec.getLsbD_ushiftRight, BitVec.getLsbD_or, BitVec.getLsbD_and,
        BitVec.getLsbD_not, BitVec.getLsbD_shiftLeft, getLsbD_255]
      simp [hw, hlt, h8, hb]
  · have := BitVec.getLsbD_of_ge x (c + k) (by omega)
    simp [hw, this]

end Sys2Proof.Machine
end

