-- ==== Sys2Proof/Tests/Slice0.lean ====
section
/-! SUPPORT. Tests on small states, with results from the spec's worked examples, and for each statement with hypotheses a
state and operands that meet them. -/

namespace Sys2Proof.Tests

open Sys2Proof.Machine

/-! ## Small states -/

/-- Seconds and ticks as one count. -/
def at_ (seconds ticks : Nat) : Ticks := BitVec.ofNat 56 (seconds * 16777216 + ticks)

/-- The state after a command; the part never stops. -/
def after (c : Instr) (s : State) : State :=
  match exec c s with
  | .next t => t
  | _ => s

/-- Power-on with the timebase in a state, at a time and in an epoch. -/
def withTime (st : TbState) (time : Ticks) (epoch : Epoch) : State :=
  State.reset.setTb { Timebase.reset with state := st, time := time, epoch := epoch }

/-- RUNNING at 100 s in epoch 5. -/
def running : State := withTime .running (at_ 100 0) 5

/-- RUNNING with the trim pair of section 1.5 (W = 1 s, T = +3) in force and `i` cycles of the window counted. -/
def trimmed (i : Nat) : State :=
  running.setTb { running.tb with inForce := { negative := false, magnitude := 3, window := .one }, position := i }

/-- The slew of section 1.6: −12 ticks of −40 are left at s = 4, after `count` counting cycles. -/
def slew (count : Nat) (deferred : Bool) : Slew :=
  { remainder := -12, rate := 4, count := count, start := -40, deferred := deferred }

/-- The same slew in the trimmed window. -/
def slewing (i count : Nat) (deferred : Bool) : State :=
  (trimmed i).setTb { (trimmed i).tb with state := .slewing (slew count deferred) }

/-- An edge-aligned load to 1,000 s that waits for CAP0. -/
def wait (frozen : Bool) : EdgeWait := { target := at_ 1000 0, line := 0, frozen := frozen }

/-- CAP0 as in section 2.6 (d = 0, q = 4, rising, logged), with `count` samples of a rising run taken and one due. -/
def pulseLine (count : Nat) : CapLine :=
  { CapLine.reset with
    enabled := true
    qualMinus1 := 3
    log := true
    level := some .low
    run := some { candidate := .high, time := 0, epoch := 0, frozen := true, count := count }
    due := true }

/-- A state with capture line 0 as given and all sampled input pins HIGH. -/
def withLine (l : CapLine) (s : State) : State :=
  (s.setCap (s.cap.set 0 l)).setPins { s.pins with sampled := { cap := 63, grd := 3, csLow := false } }

/-- Section 2.6 in the cycle of the fourth high sample. -/
def pulse : State := withLine (pulseLine 3) (withTime (.awaitEdge (wait true)) 0 0)

/-- A plan: SET of line 3, FIRE_LATE, notify, at a due time. -/
def plan (due : Ticks) (cadence : Cadence) : Plan :=
  { cadence := cadence, due := due, deed := .set 3, late := .fireLate, link := none, notify := true,
    epochBound := false }

/-- Entry 0 as given. -/
def withEntry (e : Entry) (s : State) : State := s.setEntry 0 e

/-- Kept fields of an entry that is armed in epoch 5. -/
def kept (remaining : Option Count) : Kept :=
  { remaining := remaining, fires := 0, skips := 0, lastFire := none, armedEpoch := some 5 }

/-- An entry that is due in `running`, with a link to entry 1. -/
def linked : Plan := { plan (at_ 99 0) .once with link := some { entry := 1, offset := 256 } }

/-- `running` with a linked entry that is due, and its target in a state. -/
def linkState (target : Entry) : State := (withEntry (.armed linked (kept none) false) running).setEntry 1 target

/-- The entry 5 of section 5.9: a quarter second, 20 times, from 301 s, DROP. -/
def quarter : Plan :=
  { plan (at_ 301 0) (.periodic 4194304 (some 20)) with deed := .none, late := .drop }

/-- A FIRE record as an offer. -/
def offer : Offer := { time := 0, epoch := 0, body := .fire 0 false true false 0 }

/-- A queue of `n` records, numbered from `first`. -/
def queue (n first : Nat) : RecordQueue :=
  { RecordQueue.reset with
    records := (List.range n).map fun i => { seq := BitVec.ofNat 16 (first + i), offer := offer }
    nextSeq := BitVec.ofNat 16 (first + n) }

/-- A guard line that is enabled, active HIGH, with n = 2, in a state, its sample due by those terms. -/
def guardLine (g : GuardState) : GuardLine :=
  { enabled := true, activeLevel := .high, qual := 2, state := g, due := some { activeLevel := .high, qual := 2 } }

/-- A guard sample cycle with GRD0 in a state, both guard pins HIGH, and OUT1 safe at HIGH. -/
def guardCycle (g : GuardState) : State :=
  let s := running.setGuard { running.guard with
    lines := running.guard.lines.set 0 (guardLine g), safe := running.guard.safe.set 1 .high }
  s.setPins { s.pins with sampled := { cap := 0, grd := 3, csLow := false } }

/-- `running` tripped, with OUT1 at its safe level HIGH. -/
def tripped : State := after .guardSample (guardCycle (.toActive 1))

/-- A state with RESET_N low. -/
def inReset (s : State) : State := s.setResetLow true

/-- The timebase with a staged amount or target. -/
def staged (negative : Bool) (value : Nat) (s : State) : State :=
  s.setTb { s.tb with staged := { negative := negative, value := BitVec.ofNat 56 value } }

/-- A cycle whose wrap is still to be taken. -/
def wrapping (s : State) : State := s.setCyc { s.cyc with wrapDue := true }

/-- A cycle with a notice that is still to be taken. -/
def noticed (sweep : Bool) (s : State) : State :=
  s.setCyc { s.cyc with notices := [{ epoch := s.tb.epoch, time := s.tb.time, sweep := sweep }] }

/-- A state with HOST in the hold set. -/
def held (s : State) : State := s.setDisp { s.disp with holdHost := true }

/-- A port with an open transaction. -/
def withTx (tx : Transaction) (s : State) : State := s.setSp { s.sp with tx := tx }

/-! ## Well-formedness -/

theorem test_wf_refuses_address_byte_of_time_window : (Instr.addressByte 0x87).wf = false := by decide

theorem test_wf_refuses_address_byte_of_head_window : (Instr.addressByte 0xB8).wf = false := by decide

theorem test_wf_refuses_register_write_of_paged_byte : (Instr.registerWrite 0x08 0).wf = false := by decide

theorem test_wf_refuses_register_write_of_strobe : (Instr.registerWrite 0x68 0).wf = false := by decide

theorem test_wf_takes_staging_write_and_plain_address :
    (Instr.registerWrite 0x67 0).wf = true ∧ (Instr.addressByte 0x07).wf = true ∧
    (Instr.addressByte 0x88).wf = true := by decide

/-! ## Worked examples of the spec -/

/-- Section 1.5: the marked cycles of T = +3 over 1 s. -/
theorem test_trim_marks :
    (List.map (fun i => trimMarked i 3 16777216) [5592405, 5592406, 11184810, 11184811, 16777215, 16777216]) =
      [false, true, false, true, false, true] := by decide

/-- Section 1.6, first row after the meeting: the due modification is deferred and the advance is 2. -/
theorem test_slew_meets_trim :
    (after (.countingCycle ⟨.low, .endFirst⟩) (slewing 5592405 15 false)).tb.time = at_ 100 2 ∧
    (after (.countingCycle ⟨.low, .endFirst⟩) (slewing 5592405 15 false)).tb.state = .slewing (slew 16 true) := by decide

/-- Section 1.6, second row: the deferred one is applied and the advance is 0. -/
theorem test_deferred_slew_is_applied :
    (after (.deferredSlewModification ⟨.low, .endFirst⟩) (slewing 5592406 16 true)).tb.time = at_ 100 0 ∧
    (after (.deferredSlewModification ⟨.low, .endFirst⟩) (slewing 5592406 16 true)).tb.state =
      .slewing { slew 17 false with remainder := -11 } := by decide

/-- Section 1.7: the largest value with an advance of 2 wraps to 1 tick, epoch 17 to 18. -/
theorem test_wrap :
    let s := (trimmed 5592405).setTb { (trimmed 5592405).tb with time := at_ 4294967295 16777215, epoch := 17 }
    (after .wrap (after (.countingCycle ⟨.low, .endFirst⟩) s)).tb.time = 1 ∧
    (after .wrap (after (.countingCycle ⟨.low, .endFirst⟩) s)).tb.epoch = 18 := by decide

/-- Section 2.6: the first pulse sets the time to 1,000 s + 3 ticks in epoch 1. -/
theorem test_edge_load :
    (after (.captureSample 0) pulse).tb.time = at_ 1000 3 ∧ (after (.captureSample 0) pulse).tb.epoch = 1 ∧
    (after (.captureSample 0) pulse).tb.state = .running := by decide

/-- Section 2.6: its two records. -/
theorem test_edge_load_records :
    (after (.captureSample 0) pulse).cyc.offers =
      [{ time := at_ 1000 3, epoch := 1, body := .step .edgeLoad false 0 },
       { time := at_ 1000 0, epoch := 1, body := .edge 0 true false .noMiss 4 }] := by decide

/-- Section 4.8: the re-arming after the first fire. -/
theorem test_periodic_fire :
    let p := plan (at_ 10 0) (.periodic 8388608 (some 3))
    let s := withEntry (.armed p (kept (some 3)) false) (withTime .running (at_ 10 0) 4)
    (after (.dispatch .actionFirst) s).entry 0 =
      .armed { p with due := at_ 10 8388608 }
        { kept (some 2) with fires := 1, lastFire := some (at_ 10 0) } false := by decide

/-- Section 5.9: seven quarter seconds passed over by the forward jump. -/
theorem test_sweep_skips_seven :
    Entry.treat (at_ 302 8388608) (.armed quarter (kept (some 20)) false) =
      .armed { quarter with due := at_ 302 12582912 } { kept (some 13) with skips := 7 } false := by decide

/-- Section 5.9: the record of the forward jump, clipped. -/
theorem test_jump_record :
    let s := withTime .running (at_ 300 8388608) 5
    let s := s.setTb { s.tb with staged := { negative := false, value := at_ 2 0 } }
    (after (.tbJump 0 .noticeFirst) s).cyc.offers =
      [{ time := at_ 302 8388608, epoch := 6, body := .step .jump false 8388607 }] := by decide

/-- Section 6.6: a pulse, and the idle level written while it runs. -/
theorem test_idle_write_keeps_pulse :
    let s := State.reset.setOuts (Deed.act (.pulse 5 600) State.reset.outs)
    (after (.idleLevelWrite 5 .high) s).outs.get 5 =
      { mode := .off, idle := .high, level := .high, pulse := some { remaining := 600, active := .high } } := by
  decide

/-- Section 7.7: under KEEP_OLDEST an EDGE offer is dropped and a GUARD record replaces the tail. -/
theorem test_guard_record_replaces_tail :
    let q := ((queue 32 505).take offer).take { offer with body := .guard 0 false }
    q.nextSeq = 539 ∧ (q.records.map Record.seq).drop 30 = [535, 538] := by decide

/-- Section 8.8: the trip cancels pulses and takes OUT1 to HIGH. -/
theorem test_trip :
    tripped.guard.tripped = true ∧ tripped.disp.holdGuard = true ∧ (tripped.outs.get 1).level = .high ∧
    tripped.icu.flags.gtrip = true := by decide

/-- Section 8.8: force and release are refused with GUARD_ACTIVE. -/
theorem test_tripped_refuses :
    (after (.outClear 2) tripped).icu.result = { strobe := 0x78, code := .guardActive } ∧
    (after (.grdRelease 0) tripped).icu.result = { strobe := 0x7B, code := .guardActive } := by decide

/-- Section 10.6: the staging bytes of ONCE, SET of line 3 at 500 s, and the arming of entry 12. -/
theorem test_compose_and_arm :
    let bytes : List (Addr × Byte) := [(0x48, 0x24), (0x49, 3), (0x4D, 1), (0x4E, 0xF4)]
    let s := bytes.foldl (fun s b => after (.registerWrite b.1 b.2) s) State.reset
    (after (.schArm 12) s).entry 12 = .armed (plan (at_ 500 0) .once)
      { kept none with armedEpoch := some 0 } false := by decide

/-- R180: the identity bytes. -/
theorem test_identity :
    let s := after (.pageSelectWrite 2) State.reset
    ([0x26, 0x27, 0x28, 0x29, 0x2A] : List Addr).map s.readLive = [86, 74, 26, 10, 1] := by decide

/-- R172: the pointer wraps in the time window and runs from 0x7F on to 0x00. -/
theorem test_pointer : nextAddr 1 0x07 = 0x00 ∧ nextAddr 1 0x7F = 0x00 ∧ nextAddr 2 0x6F = 0x6F := by decide

/-- R177 and R180: the head record reads kind, number and epoch. -/
theorem test_head_bytes :
    (List.range 4).map (headByte ((queue 1 500).records.head?)) = [2, 1, 0xF4, 0] := by decide

/-! ## The hypotheses of the statements can be met -/

theorem test_witness_StepTakesFrontCommandOrIdles :
    (State.reset.setPending [.wrap]).pending = .wrap :: [] ∧ State.reset.pending = [] := by decide

theorem test_witness_NoCommandTouchesTheWaitingCommands : ∃ t, exec .wrap State.reset = .next t := ⟨_, rfl⟩

/-- The port takes a byte without a transaction and in a write: the hypothesis of SoftResetLeavesTimeInputsAndProtection,
StopByState, LoadReplacesTheTime, PopAndFlushRemoveRecords, PendingAndEnableRegisters and others. -/
theorem test_witness_takes_bytes :
    State.reset.takesBytes = true ∧ running.takesBytes = true ∧ tripped.takesBytes = true ∧
    (withTx (.writing 0x69) running).takesBytes = true := by decide

theorem test_witness_PinResetKeepsTimeAndGuard : State.reset.resetLow = false ∧ tripped.resetLow = false := by decide

/-- A data byte in reset, in an ignored CS_N and in a read; and RESET_N low with and without an offer that waits. -/
theorem test_witness_PortIdlesInResetAndFlagsAreOwed :
    (Instr.tbStart 0).isDataByte = true ∧ (Instr.registerWrite 0x67 0).isDataByte = true ∧
    (Instr.captureEnable 0 0 0).isDataByte = true ∧ (inReset running).resetLow = true ∧
    (withTx .ignored running).sp.tx = .ignored ∧ (withTx (.reading 0 .live) running).sp.tx = .reading 0 .live ∧
    (inReset (running.offer offer)).cyc.offers = [offer] := by decide

theorem test_witness_EveryCycleMovesTheCounts :
    (State.reset.endCycle.tb.state.counting = !true ∧ ∃ t, exec (.frozenCycle .low) State.reset = .next t) ∧
    (running.endCycle.tb.state.counting = !false ∧ ∃ t, exec (.countingCycle ⟨.low, .endFirst⟩) running = .next t) :=
  ⟨⟨by decide, _, rfl⟩, by decide, _, rfl⟩

/-- Both clauses, each with the wait of its attribute, and a counting cycle that is trim-modified. -/
theorem test_witness_CycleAddsTheAdvanceOrHolds :
    State.reset.endCycle.tb.state = .stopped ∧
    (withTime (.awaitEdge (wait true)) 0 0).endCycle.tb.state = .awaitEdge (wait true) ∧ (wait true).frozen = true ∧
    (trimmed 5592405).endCycle.tb.state = .running ∧ trimMarked 5592406 3 16777216 = true ∧
    (withTime (.awaitEdge (wait false)) 0 0).endCycle.tb.state = .awaitEdge (wait false) ∧
    (wait false).frozen = false := by decide

/-- A modification that is due and one that is deferred. -/
theorem test_witness_SlewCycleAppliesOrDefers :
    ((slewing 5592405 15 false).endCycle.tb.state = .slewing (slew 15 false) ∧ (slew 15 false).Ok ∧
      (15 + 1) % 2 ^ (slew 15 false).rate.toNat = 0) ∧
    ((slewing 5592406 16 true).endCycle.tb.state = .slewing (slew 16 true) ∧ (slew 16 true).Ok ∧
      (slew 16 true).deferred = true ∧ trimMarked 5592407 3 16777216 = false) := by decide

/-- One tick is left, and its modification falls due. -/
theorem test_witness_SlewEndsWithItsLastModification :
    let sl : Slew := { slew 15 false with remainder := -1 }
    let s := withTime (.slewing sl) (at_ 100 0) 5
    s.endCycle.tb.state = .slewing sl ∧ (∃ t, exec (.countingCycle ⟨.low, .endFirst⟩) s = .next t) ∧
    (after (.countingCycle ⟨.low, .endFirst⟩) s).tb.state = .slewEnding ∧
    (after (.countingCycle ⟨.low, .endFirst⟩) s).cyc.slewEndDue = none ∧
    (after (.countingCycle ⟨.low, .endLast⟩) s).cyc.slewEndDue = some (-40) :=
  ⟨by decide, ⟨_, rfl⟩, by decide, by decide, by decide⟩

/-- A cycle in which all has been taken, with a DRIVEN line, a pulse in flight and a threshold just reached. -/
def doneCycle : State :=
  let s := State.reset.setCyc { Cycle.reset with decided := true }
  let s := s.setOuts (s.outs.set 0
    { mode := .driven, idle := .low, level := .high, pulse := some { remaining := 1, active := .high } })
  (s.setTrq (queue 1 0)).setIcu { s.icu with enables := 1 }

/-- A cycle in which all has been taken; one whose capture sample and pulse end are untaken; and MISO in a read with CS_N low,
and with CS_N high before the transaction ends. -/
theorem test_witness_EndOfCycleShowsThePins :
    doneCycle.CycleDone ∧ ¬ pulse.CycleDone ∧ pulse.endCycle.trq.records.length = 2 ∧
    (let ended := doneCycle.setOuts (doneCycle.outs.modify 0 (OutLine.startPulse 0));
      ¬ ended.CycleDone ∧ (ended.endCycle.outs.get 0).pulse = none) ∧
    (let low (b : Bool) : State := withTx (.reading 0 .live)
      (running.setPins { running.pins with now := { InputPins.low with csLow := b } });
      (low true).endCycle.pins.miso = .shifting 0 ∧ (low false).endCycle.pins.miso = .highZ) := by decide

/-- At the last cycle of the window. -/
theorem test_witness_TrimWindowEndTakesTheWrittenPair :
    (trimmed 16777216).tb.inForce.window.cycles ≤ (trimmed 16777216).tb.position := by decide

/-- Two marked cycles under the greatest magnitude, and a magnitude of 0. -/
theorem test_witness_TrimMarksAreEvenlySpread :
    trimMarked 4098 4095 16777216 = true ∧ trimMarked 8195 4095 16777216 = true ∧ (4095#12).toNat ≠ 0 := by decide

/-- A plain wrap; one in whose cycle a slew ended; one with RESET_N low; and one in the cycle of an edge-aligned load. -/
theorem test_witness_WrapChangesTheEpoch :
    (let s := wrapping running; s.cyc.wrapDue = true ∧ s.cyc.notices = [] ∧ s.tb.awaited = none) ∧
    (let s := wrapping (running.setCyc { running.cyc with slewEndDue := some (-40) });
      s.cyc.wrapDue = true ∧ s.cyc.notices = [] ∧ s.cyc.slewEndDue = some (-40) ∧ s.tb.awaited = none) ∧
    (let s := inReset (wrapping running); s.cyc.wrapDue = true ∧ s.cyc.notices = [] ∧ s.resetLow = true) ∧
    (let s := wrapping pulse;
      s.cyc.wrapDue = true ∧ s.cyc.notices = [] ∧ s.tb.awaited = some 0 ∧ s.completesEdge 0 = true) := by decide

/-- A slew of every state, and the amounts 0, 1, 8,388,607 and 8,388,608. -/
theorem test_witness_StartSlewAndCancelEdgeByState :
    (staged true 0 running).takesBytes = true ∧
    ([0, 1, 8388607, 8388608].map fun v => (after (.tbSlew 0) (staged true v running)).icu.result.code) =
      [.badField, .ok, .ok, .badField] := by decide

/-- Jumps to −1, 0, 2^56 − 1 and 2^56, and past 2^56 − 1 by the base alone. -/
theorem test_witness_JumpAddsTheStagedAmount :
    let one := withTime .running 1 5
    ([staged true 2 one, staged true 1 one, staged false (2 ^ 56 - 2) one, staged false (2 ^ 56 - 1) one,
        staged false 0 (wrapping one)].map fun s => (after (.tbJump 0 .noticeLast) s).icu.result.code) =
      [.badField, .ok, .ok, .badField, .badField] := by decide

/-- Arguments 5 and 6 with line 5 enabled, and a target at the bound and past it. -/
theorem test_witness_LoadEdgeWaitsForTheLine :
    let s := running.setCap (running.cap.set 5 { pulseLine 3 with run := none })
    ([(5, staged false (2 ^ 56 - 1 - 896) s), (6, s), (5, staged false (2 ^ 56 - 896) s), (4, s)].map fun (x : Byte × State) =>
      (after (.tbLoadEdge x.1) x.2).icu.result.code) = [.ok, .badIndex, .badField, .badState] := by decide

/-- The second sample of a run, a run that completes an edge the line does not report, and the first sample of all. -/
theorem test_witness_CaptureSampleQualifies :
    ((pulseLine 1).Ok ∧ (pulseLine 1).due = true ∧ (withLine (pulseLine 1) running).cap.get 0 = pulseLine 1 ∧
      (withLine (pulseLine 1) running).capSample 0 = .high) ∧
    (let l := { pulseLine 3 with edges := .falling };
      l.Ok ∧ l.due = true ∧ l.edges = .falling ∧ (withLine l running).capSample 0 = .high) ∧
    (let l := { pulseLine 3 with level := none, run := none };
      l.Ok ∧ l.due = true ∧ l.level = none) := by decide

/-- The fourth sample of a run of q = 4 toward HIGH; q = 1, whose first sample completes; and a trigger target. -/
theorem test_witness_CompletedEdgeTriggersAndRecords :
    (let s := withLine (pulseLine 3) running;
      s.tb.awaited ≠ some 0 ∧ (pulseLine 3).Ok ∧ (pulseLine 3).due = true ∧
      (pulseLine 3).level = some .low ∧ s.capSample 0 ≠ .low ∧ 3 + 1 = (pulseLine 3).qual ∧
      (pulseLine 3).edges = .rising ∧ s.capSample 0 = .high) ∧
    (let l := { pulseLine 3 with qualMinus1 := 0, run := none, targetNone := false };
      l.Ok ∧ l.level = some .low ∧ 0 + 1 = l.qual) := by decide

theorem test_witness_AwaitedEdgeLoadsTheTarget :
    pulse.tb.state = .awaitEdge (wait true) ∧ (pulse.cap.get 0).Ok ∧
    (pulse.cap.get 0).due = true ∧ pulse.completesEdge 0 = true := by decide

/-- The line an edge-aligned load waits for is enabled; and no load waits. -/
theorem test_witness_CaptureConfigurationWrites :
    pulse.takesBytes = true ∧ pulse.tb.awaited = some 0 ∧ (pulse.cap.get 0).enabled = true ∧
    running.tb.awaited = none := by decide

theorem test_witness_SamplesFallOnTheGrid :
    (pulseLine 3).enabled = true ∧ (pulseLine 3).interval = 0 := by decide

theorem test_witness_StagingRecordIsCheckedAndCopied : ∃ p, Staging.reset.plan 0 = some p := ⟨_, rfl⟩

/-- The entry is DONE STALE. -/
def isStale : Entry → Bool
  | .done .stale _ _ => true
  | _ => false

/-- The arguments on both sides of the bound; an entry in use; a free one with a record that passes and one that fails; and an
epoch-bound DROP entry armed before the notice of its cycle, which ends STALE (R73). -/
theorem test_witness_ArmAndParkCopyTheStagingRecord :
    State.reset.takesBytes = true ∧ 31 < (32#8).toNat ∧ (31#8).toNat < 32 ∧
    (withEntry (.armed linked (kept none) true) running).entry 0 = .armed linked (kept none) true ∧
    State.reset.entry 31 = .free ∧ (Staging.reset.plan 31).isSome = true ∧
    { Staging.reset with periodic := true, period := 255 }.plan 31 = none ∧
    (noticed true running).NoticeToCome ∧ (wrapping running).NoticeToCome ∧
    (let s := noticed true (running.setSched { running.sched with
        staging := { Staging.reset with drop := true, epochBound := true } });
      let armed := after (.schArm 31) s;
      (s.sched.staging.plan 31).any (fun p => p.epochBound && decide (p.due ≤ s.presented.time)) = true ∧
      (armed.entry 31).isArmed = false ∧ isStale (armed.entry 31) = false ∧ isStale (armed.takeNotices.entry 31) = true) := by
  decide

theorem test_witness_CancelFreeAndViewEntries :
    running.takesBytes = true ∧ 31 < (32#8).toNat ∧ (31#8).toNat < 32 := by decide

/-- R76: the cancelled head would have been dispatched, and the next one is not dispatched in its place. -/
theorem test_cancel_spends_the_decision :
    let s := linkState (.armed { linked with link := none } (kept none) false)
    let t := after (.dispatch .actionFirst) (after (.schCancel 0) s)
    t.entry 0 = .done .cancelled linked (kept none) ∧
    t.entry 1 = .armed { linked with link := none } (kept none) false := by decide

/-- R107: the awaited sample comes before the sweep of the release, so that an epoch-bound entry becomes STALE, not SKIPPED. -/
theorem test_resume_takes_the_load_first :
    let p := { quarter with due := 0, epochBound := true }
    (after (.schResume 0) (held (withEntry (.armed p (kept (some 20)) false) pulse))).entry 0 =
      .done .stale p (kept (some 20)) := by decide

/-- HOST absent; GUARD present; an awaited sample still to come; a notice with and without a sweep; and none. -/
theorem test_witness_HoldAndResume :
    running.disp.holdHost = false ∧ (held tripped).disp.holdGuard = true ∧
    ((held pulse).disp.holdGuard = false ∧ (held pulse).tb.awaited = some 0 ∧ (held pulse).completesEdge 0 = true) ∧
    ((held (noticed true running)).takesBytes = true ∧ (noticed true running).tb.awaited = none ∧
      (noticed true running).cyc.notices.any Notice.sweep = true) ∧
    (noticed false running).cyc.notices.any Notice.sweep = false ∧ (held running).cyc.notices = [] := by decide

theorem test_witness_DueQueueHeadIsEarliestThenLowest :
    dueHead (linkState .free).sched.entries = some 0 ∧ dueHead State.reset.sched.entries = none := by decide

/-- A decision already taken; no head; and a head that is one tick early. -/
theorem test_witness_DispatchIsWithheld :
    doneCycle.cyc.decided = true ∧ (running.cyc.decided = false ∧ dueHead running.sched.entries = none) ∧
    (let p := plan (at_ 100 1) .once;
      let s := withEntry (.armed p (kept none) false) running;
      s.cyc.decided = false ∧ dueHead s.sched.entries = some 0 ∧ s.entry 0 = .armed p (kept none) false ∧
      s.presented.time.toNat < p.due.toNat) := by decide

/-- A head that is due in this very cycle. -/
theorem test_witness_DispatchFiresTheHead :
    let p := plan (at_ 100 0) .once
    let s := withEntry (.armed p (kept none) false) running
    s.cyc.decided = false ∧ s.cyc.action = none ∧ s.disp.free = true ∧ s.guard.tripped = false ∧
    dueHead s.sched.entries = some 0 ∧ s.entry 0 = .armed p (kept none) false ∧ p.due.toNat ≤ s.presented.time.toNat ∧
    p.link = none := by decide

/-- A link to a PARKED entry, and a link to a FREE one, which is a miss. -/
theorem test_witness_DispatchFollowsTheLink :
    (let s := linkState (.parked (plan 0 .once) (Kept.start (plan 0 .once) none));
      s.cyc.decided = false ∧ s.cyc.action = none ∧ s.disp.free = true ∧
      s.guard.tripped = false ∧ dueHead s.sched.entries = some 0 ∧ s.entry 0 = .armed linked (kept none) false ∧
      linked.due.toNat ≤ s.presented.time.toNat ∧ linked.link = some { entry := 1, offset := 256 } ∧ (1 : Fin 32) ≠ 0 ∧
      s.entry 1 = .parked (plan 0 .once) (Kept.start (plan 0 .once) none)) ∧
    (linkState .free).entry 1 = .free ∧ dueHead (linkState .free).sched.entries = some 0 ∧
    (let p : Plan := { plan 0 .once with late := .drop, epochBound := true };
      let fired (s : State) : State := after (.dispatch .actionFirst) s;
      let s := linkState (.parked p (Kept.start p none));
      ((fired (noticed true s)).entry 1).isArmed = false ∧
      isStale ((fired (noticed true s)).takeNotices.entry 1) = true ∧
      ((fired s).entry 1).isArmed = false ∧ isStale ((fired s).entry 1) = false) := by decide

/-- Seven periods of the entry 5 of section 5.9, with and without a limit. -/
theorem test_witness_PeriodicEntryIsSetUpAfterAFire :
    let t := at_ 302 8388608
    256 ≤ (4194304#40).toNat ∧ quarter.due.toNat ≤ t.toNat ∧ t.toNat < quarter.due.toNat + 7 * 4194304 ∧
    (∀ j, j < 7 → quarter.due.toNat + j * 4194304 ≤ t.toNat) ∧
    (kept none).remaining = none ∧ (kept (some 1)).remaining = some 1 := by decide

/-- The same entry under DROP, a ONCE entry under either policy, and a due time one tick ahead. -/
theorem test_witness_OverdueEntryIsTreatedByItsPolicy :
    let t := at_ 302 8388608
    quarter.due.toNat ≤ t.toNat ∧ quarter.late = .drop ∧ quarter.cadence.period = some 4194304 ∧
    t.toNat < quarter.due.toNat + 7 * 4194304 ∧ (∀ j, j < 7 → quarter.due.toNat + j * 4194304 ≤ t.toNat) ∧
    (plan t .once).due.toNat ≤ t.toNat ∧ (plan t .once).late = .fireLate ∧ (plan t .once).cadence = .once ∧
    t.toNat < (plan (t + 1) .once).due.toNat := by decide

/-- Width 1 at both ends, and a pulse whose count stands at 0. -/
theorem test_witness_PulseLastsItsWidth :
    1 ≤ (1#24).toNat ∧ 1 ≤ (0xFFFFFF#24).toNat ∧
    (let s := State.reset.setOuts (Deed.act (.pulse 0 0) State.reset.outs);
      (s.outs.get 0).pulse = some { remaining := 0, active := .high }) := by decide

theorem test_witness_ForceCommandsSetTheLine :
    running.takesBytes = true ∧ 7 < (8#8).toNat ∧ (7#8).toNat < 8 ∧ tripped.guard.tripped = true ∧
    running.guard.tripped = false := by decide

theorem test_witness_ModeAndIdleWritesKeepTheLevel :
    let s := after (.pageSelectWrite 2) State.reset
    s.takesBytes = true ∧ s.sp.page = 2 := by decide

theorem test_witness_PortKeepsItsOrder :
    ([offer] : List Offer).Pairwise (fun x y => x.rank ≤ y.rank) ∧ State.reset.cyc.offers = [] ∧
    (running.offer offer).cyc.offers = [offer] ∧ ∃ t, exec .guardSample (guardCycle (.toActive 1)) = .next t :=
  ⟨by decide, rfl, rfl, _, rfl⟩

/-- An idle port, and a read of the head window. -/
theorem test_witness_TransactionEndMakesTheAutoPop :
    State.reset.sp.tx = .idle ∧
    (withTx (.reading 0x38 (.head none true)) State.reset).sp.tx = .reading 0x38 (.head none true) := by decide

/-- A guard line of the states above is sound. -/
theorem guardLine_ok (g : GuardState) (h : g = .inactive ∨ g = .toActive 1 ∨ g = .active) : (guardLine g).Ok := by
  rcases h with rfl | rfl | rfl <;> decide

/-- A sample that activates no line, with no waiting action, and with one that is taken or, tripped, discarded. -/
theorem test_witness_GuardSampleMovesTheLines :
    ((guardCycle .inactive).guard.lines.get 0).due ≠ none ∧ (∀ n, ((guardCycle .inactive).guard.lines.get n).Ok) ∧
    (guardCycle .inactive).cyc.action = none ∧
    (let waiting (s : State) : State := s.setCyc { s.cyc with action := some (.set 0) };
      ((after .guardSample (waiting (guardCycle .inactive))).outs.get 0).level = .high ∧
      ((after .guardSample (waiting (tripped.setGuard
        { tripped.guard with lines := (guardCycle .inactive).guard.lines }))).outs.get 0).level = .low) := by
  refine ⟨by decide, fun n => ?_, by decide, by decide⟩
  have h : ∀ n, (guardCycle .inactive).guard.lines.get n = guardLine .inactive ∨
      (guardCycle .inactive).guard.lines.get n = GuardUnit.reset.lines.get 0 := by decide
  rcases h n with h | h <;> rw [h]
  · exact guardLine_ok _ (.inl rfl)
  · decide

/-- The second active sample of n = 2 on one line, and on both in one guard sample cycle, which trips once. -/
theorem test_witness_ActivationTripsTheUnit :
    (let s := guardCycle (.toActive 1);
      (s.guard.lines.get 0).due = some { activeLevel := .high, qual := 2 } ∧ s.guardLevel 0 = .high ∧
      (s.guard.lines.get 0).state = .toActive 1) ∧
    (let s := guardCycle (.toActive 1);
      let b := s.setGuard { s.guard with lines := s.guard.lines.set 1 (guardLine (.toActive 1)) };
      b.guardLevel 1 = .high ∧ (after .guardSample b).cyc.offers.length = 2 ∧
      (after .guardSample b).guard.tripped = true) := by decide

/-- R150 and R151: a line enabled in the guard sample cycle takes no sample in it, and one whose n is written is judged by the
n that stood as the cycle began. -/
theorem test_guard_write_before_its_sample :
    let page2 (s : State) : State := after (.pageSelectWrite 2) s
    let off := after (.guardDisable 0 .high 2) (page2 (guardCycle (.toActive 1)))
    (after .guardSample (after (.guardEnable 0 .high 1) off)).guard.tripped = false ∧
    ((after .guardSample (after (.guardReconfig 0 .high 1) (page2 (guardCycle .inactive)))).guard.lines.get 0).state =
      .toActive 1 := by decide

theorem test_witness_GuardAndSafeLevelWrites :
    running.takesBytes = true ∧ running.guard.tripped = false ∧ tripped.takesBytes = true ∧
    tripped.guard.tripped = true := by decide

/-- Untripped; tripped with a line that is ACTIVE; tripped with every line INACTIVE, held and free. -/
theorem test_witness_ReleaseNeedsQuietLines :
    running.guard.tripped = false ∧ tripped.guard.tripped = true ∧
    ((tripped.guard.lines.get 0).enabled = true ∧ (tripped.guard.lines.get 0).state ≠ .inactive) ∧
    (let s := after (.guardDisable 0 .high 2) tripped;
      s.guard.tripped = true ∧ (∀ n, (s.guard.lines.get n).state = .inactive) ∧ s.disp.holdHost = false ∧
      (held s).disp.holdHost = true ∧ s.tb.awaited = none ∧ s.cyc.notices = [] ∧
      (noticed true s).cyc.notices.any Notice.sweep = true) ∧
    (let s := pulse.setGuard { pulse.guard with tripped := true };
      s.tb.awaited = some 0 ∧ s.completesEdge 0 = true ∧ ∀ n, (s.guard.lines.get n).enabled = false) := by decide

/-- Rates 3, 4, 16 and 17, thresholds 0, 32 and 33, and pages 2 and 3. -/
theorem test_witness_ConfigurationRegisterWrites :
    let s := after (.pageSelectWrite 2) running
    s.takesBytes = true ∧
    ([3, 4, 16, 17].map fun x => ((after (.slewRateWrite x) s).tb.rate).toNat) = [4, 4, 16, 16] ∧
    ([0, 32, 33].map fun x => ((after (.queueConfigWrite x) s).trq.threshold).toNat) = [1, 32, 32] ∧
    ([2, 3].map fun x => (after (.pageSelectWrite x) State.reset).sp.page.val) = [2, 0] := by decide

theorem test_witness_StagingRecordReadsAsWritten :
    State.reset.takesBytes = true ∧ (0 : Nat) < 32 ∧ (31 : Nat) < 32 ∧ (0x13#8).toNat / 4 % 8 ≤ 4 ∧
    4 < (0xF7#8).toNat / 4 % 8 ∧
    (let s := after (.registerWrite 0x48 0x0C) State.reset;
      s.readLive 0x48 = 0x0C ∧ (after (.registerWrite 0x48 0xF7) s).readLive 0x48 = 0xEF) := by decide

/-- The pages of StrobeBytesIssueTheirCommands, and read-only addresses of each. -/
theorem test_witness_StrobeBytesIssueTheirCommands :
    (after (.pageSelectWrite 1) running).sp.page = 1 ∧ (after (.pageSelectWrite 2) running).sp.page = 2 ∧
    ignoresWrites 0 0x37 ∧ ignoresWrites 1 0x32 ∧ ignoresWrites 2 0x13 ∧ ignoresWrites 2 0x47 ∧
    running.takesBytes = true := by decide

/-- No transaction, with address bytes on both sides of bit 7; CS_N low before the address byte; and each open transaction. -/
theorem test_witness_AddressByteOpensTheTransaction :
    State.reset.resetLow = false ∧ State.reset.sp.tx = .idle ∧ (0x7F#8).getLsbD 7 = false ∧
    (0x88#8).getLsbD 7 = true ∧ (Instr.addressByte 0x88).wf = true ∧
    (after (.countingCycle ⟨{ InputPins.low with csLow := true }, .endFirst⟩) running).sp.tx = .addressing ∧
    (withTx (.writing 0x7B) running).sp.tx = .writing 0x7B ∧ (withTx .ignored running).sp.tx = .ignored ∧
    (withTx (.reading 0 .live) running).sp.tx = .reading 0 .live := by decide

/-- A byte at 0x47 of a head latch, a live read and a snapshot whose fetch is due. -/
theorem test_witness_ReadDataByteStepsThePointer :
    (withTx (.reading 0x47 (.head none false)) State.reset).sp.fetchDue = false ∧
    (after (.addressByte 0xFF) State.reset).sp.tx = .reading 0x7F .live ∧
    (after (.addressByte 0xFF) State.reset).sp.fetchDue = true ∧
    (after (.timeSnapshot 7) State.reset).sp.tx = .reading 0x07 .snapshot ∧
    (after (.timeSnapshot 7) State.reset).sp.fetchDue = true := by decide

/-- A tripped state that is sound, and a step of it by a command. -/
theorem test_witness_StepKeepsTheGuardProtection :
    (tripped.setPending [.outClear 1]).GuardOk ∧ ∃ t, step (tripped.setPending [.outClear 1]) = .next t := by
  refine ⟨⟨by decide, fun n => ?_, fun _ => by decide⟩, _, rfl⟩
  have h : ∀ n, tripped.guard.lines.get n = { guardLine .active with due := none } ∨
      tripped.guard.lines.get n = GuardUnit.reset.lines.get 0 := by decide
  show (tripped.guard.lines.get n).Ok
  rcases h n with h | h <;> rw [h] <;> decide

theorem test_witness_OnlyReleaseUntripsTheUnit :
    let s := after (.guardDisable 0 .high 2) tripped
    (∃ t, exec (.grdRelease 0) s = .next t ∧ t.guard.tripped = false) ∧ s.guard.tripped = true :=
  ⟨⟨_, rfl, by decide⟩, by decide⟩

/-- A slew, an edge-load target at its bound, and a step of each. -/
theorem test_witness_StepKeepsTheTimebaseInRange :
    let bound := (withTime (.awaitEdge { wait true with target := at_ 4294967295 16776319 }) 0 0).setPending
      [.tbCancelEdge 0]
    let count := (slewing 5 15 false).setPending [.countingCycle ⟨.low, .endFirst⟩]
    count.tb.Ok ∧ bound.tb.Ok ∧ (∃ t, step count = .next t) ∧ ∃ t, step bound = .next t :=
  ⟨⟨(by decide : (slew 15 false).Ok), by decide⟩,
    ⟨(by decide : (at_ 4294967295 16776319).toNat + 896 < 2 ^ 56), by decide⟩, ⟨_, rfl⟩, _, rfl⟩

theorem test_witness_StepKeepsTheCaptureLines :
    (pulse.setPending [.captureSample 0]).CaptureOk ∧ ∃ t, step (pulse.setPending [.captureSample 0]) = .next t := by
  refine ⟨⟨fun n => ?_, fun n h => ?_⟩, _, rfl⟩
  · have h : ∀ n, pulse.cap.get n = pulseLine 3 ∨ pulse.cap.get n = CapLine.reset := by decide
    show (pulse.cap.get n).Ok
    rcases h n with h | h <;> rw [h] <;> decide
  · cases h; decide

/-- A table with an ARMED, linked entry and a late PERIODIC one with one occurrence left. -/
theorem test_witness_StepKeepsTheScheduleTable :
    let s := (linkState (.armed quarter (kept (some 1)) true)).setPending [.dispatch .actionFirst]
    s.TableOk ∧ ∃ t, step s = .next t := by
  refine ⟨fun n => ?_, _, rfl⟩
  have h : ∀ n : Fin 32, (linkState (.armed quarter (kept (some 1)) true)).entry n =
      if n = 0 then .armed linked (kept none) false
      else if n = 1 then .armed quarter (kept (some 1)) true else .free := by decide
  show Entry.Ok n ((linkState (.armed quarter (kept (some 1)) true)).entry n)
  simp only [h]
  split
  · next h =>
    subst h; simp only [Entry.Ok, Plan.Ok]
    simp [linked, plan, kept, Cadence.period, Cadence.limit, Deed.width]
  · split
    · next h =>
      subst h; simp only [Entry.Ok, Plan.Ok]
      simp [quarter, plan, kept, Cadence.period, Cadence.limit, Deed.width]
    · trivial

/-- A full queue, with a pulse in flight. -/
theorem test_witness_StepKeepsQueueAndPulses :
    let s := (doneCycle.setTrq (queue 32 0)).setPending [.qPop 0]
    (s.trq.Ok ∧ s.cyc.offers.Pairwise (fun x y => x.rank ≤ y.rank) ∧ ∀ n, (s.outs.get n).Ok) ∧
    ∃ t, step s = .next t := ⟨by decide, _, rfl⟩

end Sys2Proof.Tests
end

section
/-! The trim-modified cycles of a window (R11). A cycle i is marked when a multiple of N lies above (i − 1)·m and not above i·m;
the count and the spacing of the marks follow. -/
namespace Sys2Proof.Machine

theorem trimMarked_iff {i m n : Nat} : trimMarked i m n = true ↔ (i - 1) * m / n < i * m / n := by
  simp [trimMarked]

theorem not_trimMarked_zero (i n : Nat) : ¬trimMarked i 0 n = true := by
  simp [trimMarked_iff]

/-- The marks as multiples of N: what R11's two quotients compare. -/
theorem trimMarked_iff_exists {i m n : Nat} (hn : 0 < n) :
    trimMarked i m n = true ↔ ∃ q, (i - 1) * m < q * n ∧ q * n ≤ i * m := by
  simp only [trimMarked_iff, Nat.div_lt_iff_lt_mul hn, ← Nat.le_div_iff_mul_le hn]
  exact ⟨fun h => ⟨_, h, le_rfl⟩, fun ⟨_, hlt, hle⟩ => hlt.trans_le (Nat.mul_le_mul_right n hle)⟩

/-- A quotient counts the marks up to its cycle: with m ≤ N a cycle raises it by 1 or leaves it. -/
theorem countP_trimMarked {m n : Nat} (hmn : m ≤ n) (hn : 0 < n) (k : Nat) :
    ((List.range k).countP fun j => trimMarked (j + 1) m n) = k * m / n := by
  induction k with
  | zero => simp
  | succ k ih =>
    have hle : k * m / n ≤ (k + 1) * m / n := Nat.div_le_div_right (by lia)
    have hge : (k + 1) * m / n ≤ k * m / n + 1 := by
      rw [← Nat.add_div_right _ hn]
      exact Nat.div_le_div_right (by lia)
    simp only [List.range_succ, List.countP_append, ih, List.countP_singleton, trimMarked_iff, Nat.add_sub_cancel]
    split <;> omega

theorem trimMarked_last {m n : Nat} (hn : 0 < n) : trimMarked n m n = true ↔ m ≠ 0 := by
  rw [trimMarked_iff, Nat.mul_div_cancel_left m hn, Nat.div_lt_iff_lt_mul hn, Nat.mul_comm m n]
  exact ⟨by rintro h rfl; simp at h, fun hm => Nat.mul_lt_mul_of_pos_right (by omega) (by omega)⟩

theorem trimMarked_first {m n : Nat} (hmn : m < n) : trimMarked 1 m n = false := by
  simp [trimMarked, hmn]

/-- Two marks are a whole multiple of N apart, so more than N lies between (i − 1)·m and j·m. -/
theorem trimMarked_spacing {i j m n : Nat} (hn : 0 < n) (hi1 : 1 ≤ i) (hij : i < j)
    (hi : trimMarked i m n = true) (hj : trimMarked j m n = true) : n / m ≤ j - i := by
  obtain ⟨p, hip, hpi⟩ := (trimMarked_iff_exists hn).1 hi
  obtain ⟨q, hjq, hqj⟩ := (trimMarked_iff_exists hn).1 hj
  have hpq : p < q := by
    have hle : i * m ≤ (j - 1) * m := Nat.mul_le_mul_right m (by omega)
    exact lt_of_mul_lt_mul_right (by omega : p * n < q * n) n.zero_le
  have hstep : (p + 1) * n ≤ q * n := Nat.mul_le_mul_right n hpq
  have hsum : (i - 1) * m + m * (j - i + 1) = j * m := by
    rw [Nat.mul_comm m, ← Nat.add_mul]
    congr 1
    omega
  have hlt : n < m * (j - i + 1) := by
    rw [Nat.add_mul] at hstep
    omega
  have := Nat.div_lt_of_lt_mul hlt
  omega

theorem TrimWindow.le_cycles (w : TrimWindow) : 16777216 ≤ w.cycles := by
  cases w <;> decide

/-- The greatest magnitude is 4,095 and the shortest window 4,096² cycles. -/
theorem TrimWindow.le_cycles_div (w : TrimWindow) {mag : BitVec 12} (h : mag.toNat ≠ 0) :
    4096 ≤ w.cycles / mag.toNat := by
  have hw := w.le_cycles
  rw [Nat.le_div_iff_mul_le (by omega)]
  omega

/-- Settles O13: the count is the telescoped quotient at N, the spacing that of the multiples of N. -/
theorem trimMarksAreEvenlySpread : Obligations.TrimMarksAreEvenlySpread := by
  intro w mag n m
  have hn : 16777216 ≤ n := w.le_cycles
  have hm : m < 4096 := mag.isLt
  have hpos : 0 < n := by omega
  have hwide : m ≠ 0 → 4096 ≤ n / m := w.le_cycles_div
  have hspace : ∀ i j, 1 ≤ i → i < j → trimMarked i m n = true → trimMarked j m n = true → n / m ≤ j - i :=
    fun _ _ hi1 hij hi hj => trimMarked_spacing hpos hi1 hij hi hj
  refine ⟨?cycles, fun _ => trimMarked_iff, ?count, trimMarked_last hpos, trimMarked_first (by omega), hspace, hwide,
    ?apart⟩
  case cycles => cases w <;> rfl
  case count => rw [countP_trimMarked (by omega) hpos, Nat.mul_div_cancel_left m hpos]
  case apart =>
    rintro i hi1 ⟨hi, hnext⟩
    have hm0 : m ≠ 0 := fun h => not_trimMarked_zero i n (h ▸ hi)
    have hgap := hspace i (i + 1) hi1 i.lt_succ_self hi hnext
    have := hwide hm0
    omega

end Sys2Proof.Machine
end

section
/-! The checks of the staging record (R69) and what its copying gives (R66). Each of the three checked parts, the action, the
kind and the link, fails by its own two of the six checks; a record that passes gives each field under its condition. -/
namespace Sys2Proof.Machine

theorem indexOf_eq_none_iff {n : Nat} {arg : Byte} : indexOf n arg = none ↔ n ≤ arg.toNat := by
  simp [indexOf]

theorem indexOf_eq_some_iff {n : Nat} {arg : Byte} {m : Fin n} : indexOf n arg = some m ↔ arg.toNat = m.val := by
  simp only [indexOf, Option.dite_none_right_eq_some, Option.some.injEq, Fin.ext_iff]
  exact ⟨fun ⟨_, h⟩ => h, fun h => ⟨h ▸ m.isLt, h⟩⟩

section
variable {g : Staging} {n : Fin 32}

/-! ## The action -/

theorem Staging.toNat_line_setWidth (g : Staging) : (g.line.setWidth 8).toNat = g.line.toNat :=
  BitVec.toNat_setWidth_of_le (by decide)

theorem Staging.deed_eq_none_iff :
    g.deed = none ↔ (g.action ≠ .none ∧ 7 < g.line.toNat) ∨ (g.action = .pulse ∧ g.width = 0) := by
  have hline : indexOf 8 (g.line.setWidth 8) = none ↔ 7 < g.line.toNat := by
    rw [indexOf_eq_none_iff, g.toNat_line_setWidth, Nat.succ_le_iff]
  cases ha : g.action
  case pulse => simp [Staging.deed, ha, hline, or_iff_not_imp_right]
  all_goals simp [Staging.deed, ha, hline]

theorem Staging.deed_eq_some {d : Deed} (h : g.deed = some d) :
    d.code = g.action.code ∧ (g.action ≠ .none → d.line.map Fin.val = some g.line.toNat) ∧
    d.width = (if g.action = .pulse then some g.width else none) := by
  have hline : ∀ m, indexOf 8 (g.line.setWidth 8) = some m → m.val = g.line.toNat := fun m hm => by
    rw [← indexOf_eq_some_iff.1 hm, g.toNat_line_setWidth]
  cases ha : g.action <;> simp only [Staging.deed, ha] at h
  case none => cases h; simp [Deed.code, Deed.width, ActionCode.code]
  case' pulse => replace h := (Option.ite_none_left_eq_some.1 h).2
  all_goals
    obtain ⟨m, hm, rfl⟩ := Option.map_eq_some_iff.1 h
    simp [Deed.code, Deed.line, Deed.width, ActionCode.code, hline m hm]

/-! ## The kind -/

theorem Staging.cadence_eq_none_iff :
    g.cadence = none ↔ (g.periodic = true ∧ g.period.toNat < 256) ∨
      (g.periodic = true ∧ g.limitPresent = true ∧ g.limit = 0) := by
  unfold Staging.cadence
  split_ifs <;> simp_all

theorem Staging.cadence_eq_some {c : Cadence} (h : g.cadence = some c) :
    c = if g.periodic then .periodic g.period (if g.limitPresent then some g.limit else none) else .once := by
  unfold Staging.cadence at h
  split_ifs at h ⊢ <;> cases h <;> rfl

/-! ## The link -/

theorem Staging.linkFor_eq_none_iff :
    g.linkFor n = none ↔ (g.linkPresent = true ∧ g.link.toNat = n.val) ∨
      (g.linkPresent = true ∧ 31 < g.link.toNat) := by
  unfold Staging.linkFor
  split
  next hp =>
    cases hm : indexOf 32 g.link with
    | none => simp [hp, Nat.lt_of_succ_le (indexOf_eq_none_iff.1 hm)]
    | some m =>
      have hval := indexOf_eq_some_iff.1 hm
      have hlt : ¬31 < m.val := by omega
      simp [hp, hval, hlt, Fin.ext_iff]
  next hp => simp [hp]

theorem Staging.linkFor_eq_some {l : Option Link} (h : g.linkFor n = some l) :
    l.map (fun l => (l.entry.val, l.offset)) =
      if g.linkPresent then some (g.link.toNat, g.linkOffset) else none := by
  unfold Staging.linkFor at h
  split_ifs at h ⊢
  · split at h
    · cases h
    next m hm =>
      split_ifs at h
      cases h
      simp [indexOf_eq_some_iff.1 hm]
  · cases h
    rfl

/-! ## The record -/

theorem Staging.plan_eq_none_iff_parts :
    g.plan n = none ↔ g.deed = none ∨ g.cadence = none ∨ g.linkFor n = none := by
  cases hd : g.deed <;> cases hc : g.cadence <;> cases hl : g.linkFor n <;> simp [Staging.plan, hd, hc, hl]

theorem Staging.plan_eq_none_iff : g.plan n = none ↔ g.Fails n := by
  rw [Staging.plan_eq_none_iff_parts, Staging.deed_eq_none_iff, Staging.cadence_eq_none_iff, Staging.linkFor_eq_none_iff]
  simp only [Staging.Fails, or_assoc]

/-- The plan of a record that passes, from its three checked parts. -/
theorem Staging.plan_eq_some {p : Plan} (h : g.plan n = some p) :
    g.deed = some p.deed ∧ g.cadence = some p.cadence ∧ g.linkFor n = some p.link ∧ p.due = g.due ∧
    p.late = (if g.drop then .drop else .fireLate) ∧ p.notify = g.notify ∧ p.epochBound = g.epochBound := by
  unfold Staging.plan at h
  split at h
  next hd hc hl =>
    cases h
    exact ⟨hd, hc, hl, rfl, rfl, rfl, rfl⟩
  next => cases h

end

/-- Settles O26: the record's checks are those of its three parts, and each part gives its own fields. -/
theorem stagingRecordIsCheckedAndCopied : Obligations.StagingRecordIsCheckedAndCopied := by
  intro g n
  refine ⟨Staging.plan_eq_none_iff, fun p h => ?_⟩
  obtain ⟨hdeed, hcadence, hlink, hdue, hlate, hnotify, hbound⟩ := Staging.plan_eq_some h
  obtain ⟨hcode, hline, hwidth⟩ := Staging.deed_eq_some hdeed
  exact ⟨hdue, hlate, hnotify, hbound, Staging.cadence_eq_some hcadence, hcode, hline, hwidth,
    Staging.linkFor_eq_some hlink⟩

end Sys2Proof.Machine
end

section
/-! The output lines under an action (R116 to R118) and under a force command (R121). An action changes one number of the bank;
a force command ends in one of three answers, and the strobe records the answer. -/
namespace Sys2Proof.Machine

theorem Bank.get_modify {α : Type} {n : Nat} (b : Bank α n) (i j : Fin n) (f : α → α) :
    (b.modify i f).get j = if j = i then f (b.get j) else b.get j := by
  split
  next h => rw [h, Bank.get_modify_same]
  next h => exact Bank.get_modify_ne b f (Ne.symm h)

/-- Settles O36: each action but NONE is a change of the line it names, read at any line. -/
theorem actionsMoveTheirLine : Obligations.ActionsMoveTheirLine := by
  intro outs n m w
  exact ⟨rfl, Bank.get_modify outs n m (OutLine.force .high), Bank.get_modify outs n m (OutLine.force .low),
    Bank.get_modify outs n m OutLine.toggle, Bank.get_modify outs n m (OutLine.startPulse w)⟩

/-! ## Force commands -/

section
variable {v : Level} {arg strobe : Byte} {s t : State} {code : ResultCode}

theorem indexOf_of_lt {n : Nat} (h : arg.toNat < n) : indexOf n arg = some ⟨arg.toNat, h⟩ :=
  indexOf_eq_some_iff.2 rfl

theorem State.force_badIndex (h : 7 < arg.toNat) : State.force v arg s = (s, .badIndex) := by
  simp [State.force, indexOf_eq_none_iff.2 h]

theorem State.force_guardActive (h : arg.toNat < 8) (ht : s.guard.tripped = true) :
    State.force v arg s = (s, .guardActive) := by
  simp [State.force, indexOf_of_lt h, ht]

theorem State.force_ok (h : arg.toNat < 8) (ht : s.guard.tripped = false) :
    State.force v arg s = (s.setOuts (s.outs.modify ⟨arg.toNat, h⟩ (OutLine.force v)), .ok) := by
  simp [State.force, indexOf_of_lt h, ht]

theorem State.force_resetLow : (State.force v arg s).1.resetLow = s.resetLow := by
  unfold State.force
  split
  · rfl
  · split <;> rfl

/-- The strobe of a force command records the answer that the output unit gives. -/
theorem State.command_force (hs : s.takesBytes = true) (hf : State.force v arg s = (t, code)) :
    s.command strobe (State.force v arg) = t.answered strobe code := by
  rw [State.command_eq strobe _ s hs (State.force_resetLow.trans (s.takesBytes_high hs)), hf]

theorem exec_outSet_of_force (hs : s.takesBytes = true) (hf : State.force .high arg s = (t, code)) :
    exec (.outSet arg) s = .next (t.answered 0x77 code) :=
  congrArg Host.Outcome.next (State.command_force hs hf)

theorem exec_outClear_of_force (hs : s.takesBytes = true) (hf : State.force .low arg s = (t, code)) :
    exec (.outClear arg) s = .next (t.answered 0x78 code) :=
  congrArg Host.Outcome.next (State.command_force hs hf)

end

/-- Settles O38: the two rows are one force command under two strobes, and each clause is one of its three answers. -/
theorem forceCommandsSetTheLine : Obligations.ForceCommandsSetTheLine := by
  intro arg s hs forced
  refine ⟨fun h => ?badIndex, fun h => ⟨fun ht => ?guardActive, fun ht => ?ok⟩⟩
  case badIndex =>
    exact ⟨exec_outSet_of_force hs (State.force_badIndex h), exec_outClear_of_force hs (State.force_badIndex h)⟩
  case guardActive =>
    exact ⟨exec_outSet_of_force hs (State.force_guardActive h ht),
      exec_outClear_of_force hs (State.force_guardActive h ht)⟩
  case ok =>
    exact ⟨exec_outSet_of_force hs (State.force_ok h ht), exec_outClear_of_force hs (State.force_ok h ht)⟩

end Sys2Proof.Machine
end

section
/-! One offer at the queue (R130, R132 to R134). A queue with room stores it; a full queue ends in one of three ways, by its
policy and the kind of the offer; QLOSS rises with every loss that the ICU keeps. -/
namespace Sys2Proof.Machine

/-! ## The queue -/

section
variable {q : RecordQueue} {o : Offer}

theorem RecordQueue.take_of_room (h : q.records.length < 32) :
    q.take o = { q with nextSeq := q.nextSeq + 1, records := q.records ++ [{ seq := q.nextSeq, offer := o }] } := by
  simp [RecordQueue.take, Config.queuePlaces, h]

theorem RecordQueue.take_of_full (h : ¬q.records.length < 32) :
    q.take o =
      { q with nextSeq := q.nextSeq + 1, records := fullQueue q { seq := q.nextSeq, offer := o } } := by
  simp [RecordQueue.take, Config.queuePlaces, h]

theorem fullQueue_keepNewest (r : Record) (hp : q.policy = .keepNewest) :
    fullQueue q r = q.records.drop 1 ++ [r] := by
  simp [fullQueue, hp]

theorem fullQueue_guard (r : Record) (hp : q.policy = .keepOldest) (hg : r.offer.isGuard = true) :
    fullQueue q r = q.records.take (q.records.length - 1) ++ [r] := by
  simp [fullQueue, hp, hg, List.dropLast_eq_take]

theorem fullQueue_not_guard (r : Record) (hp : q.policy = .keepOldest) (hg : r.offer.isGuard = false) :
    fullQueue q r = q.records := by
  simp [fullQueue, hp, hg]

end

/-! ## QLOSS -/

theorem State.raiseIf_qloss (b : Bool) (s : State) :
    s.raiseIf b .qloss =
      { s with icu := { s.icu with flags :=
        { s.icu.flags with qloss := s.icu.flags.qloss || (b && !s.resetLow) } } } := by
  cases b with
  | false => simp
  | true =>
    rw [State.raiseIf_true]
    cases hr : s.resetLow with
    | false => simp [State.raise_eq _ s hr, Flags.set, hr]
    | true => simp [State.raise_low _ s hr, ← hr]

/-- The two parts of the state that a taken offer reaches, each after it. -/
theorem State.takeOffer_eq (o : Offer) (s : State) :
    s.takeOffer o =
      { s with
        trq := s.trq.take o
        icu := { s.icu with flags :=
          { s.icu.flags with
            qloss := s.icu.flags.qloss || (decide (32 ≤ s.trq.records.length) && !s.resetLow) } } } :=
  State.raiseIf_qloss _ _

/-- Settles O40: the cases are those of the queue's own decision, room first, then the full policy and the offer's kind. -/
theorem offerIsNumberedAndStoredOrLost : Obligations.OfferIsNumberedAndStoredOrLost := by
  intro o s q record
  rw [State.takeOffer_eq]
  congr 1
  by_cases hroom : q.records.length < 32
  · rw [if_pos hroom]
    exact RecordQueue.take_of_room hroom
  · rw [if_neg hroom, RecordQueue.take_of_full hroom]
    congr 1
    cases hp : q.policy with
    | keepNewest => exact fullQueue_keepNewest record hp
    | keepOldest =>
      cases hb : o.body with
      | guard line frozen => exact fullQueue_guard record hp (by simp [record, Offer.isGuard, hb])
      | edge | fire | step => exact fullQueue_not_guard record hp (by simp [record, Offer.isGuard, hb])

end Sys2Proof.Machine
end

section
/-! The guard unit's configuration registers (R147, R150, R151, R154). The three rows of a guard line's byte are one write of
that byte under three values of its enable bit; a safe-level byte holds four codes, each read as a digit of base 4. -/
namespace Sys2Proof.Machine

/-! ## A guard line's byte -/

/-- A write of a guard line's byte replaces the line and then steps the pointer (R150, R172). -/
theorem State.writePaged_writeGuardLine (n : Fin 2) (on : Bool) (active : Level) (q : BitVec 4) {s : State}
    (hs : s.takesBytes = true) :
    s.writePaged 2 (guardAddr n) (State.writeGuardLine n on active q) =
      (s.setGuard { s.guard with
        lines := s.guard.lines.set n ((s.guard.lines.get n).write on active q) }).past 2 (guardAddr n) :=
  State.writePaged_eq 2 (guardAddr n) _ s hs rfl

/-- The written line, with each condition on the two enables as a proposition and the abandoned run case by case. -/
theorem GuardLine.write_eq (on : Bool) (active : Level) (q : BitVec 4) (l : GuardLine) :
    l.write on active q =
      { enabled := on, activeLevel := active, qual := if q = 0 then 1 else q,
        due := if l.enabled = true ∧ on = true then l.due else none,
        state := if l.enabled = true ∧ on = true then
            (match l.state with
              | .inactive => .inactive
              | .toActive _ => .inactive
              | .active => .active
              | .toInactive _ => .active)
          else .inactive } := by
  obtain ⟨enabled, level, qual, state, due⟩ := l
  cases state <;> simp [GuardLine.write, storedQual, GuardState.abandon]

theorem guardAddr_eq (n : Fin 2) : guardAddr n = if n.val = 0 then 0x0A else 0x0B := by
  simp [guardAddr]

/-! ## The safe-level table -/

/-- Field `k` of a byte of two-bit fields is a digit of base 4. -/
theorem toNat_extractLsb'_two_mul (data : Byte) (k : Nat) :
    (data.extractLsb' (2 * k) 2).toNat = data.toNat / 4 ^ k % 4 := by
  rw [BitVec.extractLsb'_toNat, Nat.shiftRight_eq_div_pow, Nat.pow_mul]

/-- The level that a code stores: code 3 stores none, and the entry keeps its own (R154). -/
theorem SafeLevel.ofCode_getD (c : BitVec 2) (old : SafeLevel) :
    (SafeLevel.ofCode c).getD old =
      if c.toNat = 0 then .low else if c.toNat = 1 then .high else if c.toNat = 2 then .keep else old := by
  unfold SafeLevel.ofCode
  split
  next h => simp [h]
  next h => simp [h]
  next h => simp [h]
  next h0 h1 h2 => rw [if_neg h0, if_neg h1, if_neg h2, Option.getD_none]

theorem writeSafe_get (half : Fin 2) (data : Byte) (safe : Bank SafeLevel 8) (i : Fin 8) :
    (writeSafe half data safe).get i =
      if i.val / 4 = half.val then
        (SafeLevel.ofCode (data.extractLsb' (2 * (i.val % 4)) 2)).getD (safe.get i)
      else safe.get i :=
  Bank.get_ofFn _ _

theorem State.writeSafeLevels_tripped {half : Fin 2} {data : Byte} {s : State} (ht : s.guard.tripped = true) :
    s.writeSafeLevels half data = s :=
  if_pos ht

theorem State.writeSafeLevels_untripped {half : Fin 2} {data : Byte} {s : State} (ht : s.guard.tripped = false) :
    s.writeSafeLevels half data = s.setGuard { s.guard with safe := writeSafe half data s.guard.safe } :=
  if_neg (Bool.eq_false_iff.1 ht)

/-- The row of a safe-level byte, from what the guard unit makes of the byte. -/
theorem exec_safeLevelWrite_of_writeSafeLevels {half : Fin 2} {data : Byte} {s t : State} (hs : s.takesBytes = true)
    (hw : s.writeSafeLevels half data = t) (hp : t.sp.page = s.sp.page) :
    exec (.safeLevelWrite half data) s = .next (t.past 2 (if half = 0 then 0x0C else 0x0D)) := by
  subst hw
  exact congrArg Host.Outcome.next (State.writePaged_eq 2 _ (State.writeSafeLevels half data) s hs hp)

/-- Settles O46: the three rows are one write of the line's byte, and the safe-level row has two cases, tripped and not. -/
theorem guardAndSafeLevelWrites : Obligations.GuardAndSafeLevelWrites := by
  intro n active q half data s hs l line put addr code
  have hline : ∀ on, s.writePaged 2 (guardAddr n) (State.writeGuardLine n on active q) =
      (put (line on)).past 2 addr := fun on => by
    rw [State.writePaged_writeGuardLine n on active q hs, GuardLine.write_eq, guardAddr_eq]
    rfl
  refine ⟨congrArg _ (hline true), congrArg _ (hline false), congrArg _ (hline l.enabled), fun ht => ?tripped,
    fun ht => ⟨writeSafe half data s.guard.safe, ?untripped, fun i => ?entry⟩⟩
  case tripped => exact exec_safeLevelWrite_of_writeSafeLevels hs (State.writeSafeLevels_tripped ht) rfl
  case untripped => exact exec_safeLevelWrite_of_writeSafeLevels hs (State.writeSafeLevels_untripped ht) rfl
  case entry => rw [writeSafe_get, SafeLevel.ofCode_getD, toNat_extractLsb'_two_mul]

end Sys2Proof.Machine
end

section
/-! What one command keeps. `State.Keeps` collects the invariants of the five blocks with the two facts that every command
shares: it leaves the waiting commands, and it untrips the guard unit only where `release` allows it. Each named update keeps
them under a condition on its own block alone. -/
namespace Sys2Proof.Machine

/-- The offers wait in the port's order (R131). -/
abbrev OffersSorted (os : List Offer) : Prop := os.Pairwise fun x y => x.rank ≤ y.rank

/-- From `s` to `t` every block keeps its invariant, the waiting commands stay, and the guard unit is untripped only where
`release` holds. -/
structure State.Keeps (release : Prop) (s t : State) : Prop where
  pending : t.pending = s.pending
  guard : s.GuardOk → t.GuardOk
  tripped : s.guard.tripped = true → t.guard.tripped = true ∨ release
  timebase : s.tb.Ok → t.tb.Ok
  capture : s.CaptureOk → t.CaptureOk
  table : s.TableOk → t.TableOk
  queue : s.trq.Ok → t.trq.Ok
  offers : OffersSorted s.cyc.offers → OffersSorted t.cyc.offers
  pulses : (∀ n, (s.outs.get n).Ok) → ∀ n, (t.outs.get n).Ok

namespace State.Keeps

section
variable {release : Prop} {s t u : State}

theorem refl (release : Prop) (s : State) : s.Keeps release s :=
  ⟨rfl, id, Or.inl, id, id, id, id, id, id⟩

theorem trans (h : s.Keeps release t) (k : t.Keeps release u) : s.Keeps release u where
  pending := k.pending.trans h.pending
  guard := k.guard ∘ h.guard
  tripped hs := (h.tripped hs).elim k.tripped Or.inr
  timebase := k.timebase ∘ h.timebase
  capture := k.capture ∘ h.capture
  table := k.table ∘ h.table
  queue := k.queue ∘ h.queue
  offers := k.offers ∘ h.offers
  pulses := k.pulses ∘ h.pulses

/-- A command taken item by item keeps what each item keeps. -/
theorem foldl {α : Type} {f : State → α → State} (hf : ∀ (t : State) (a : α), t.Keeps release (f t a)) (h : s.Keeps release t)
    (l : List α) : s.Keeps release (l.foldl f t) := by
  induction l generalizing t with
  | nil => exact h
  | cons a l ih => exact ih (h.trans (hf t a))

/-! ## The named updates -/

theorem setIcu (h : s.Keeps release t) (x : Interrupts) : s.Keeps release (t.setIcu x) :=
  h.trans ⟨rfl, id, Or.inl, id, id, id, id, id, id⟩

theorem setSp (h : s.Keeps release t) (x : SerialPort) : s.Keeps release (t.setSp x) :=
  h.trans ⟨rfl, id, Or.inl, id, id, id, id, id, id⟩

theorem setPins (h : s.Keeps release t) (x : Pins) : s.Keeps release (t.setPins x) :=
  h.trans ⟨rfl, id, Or.inl, id, id, id, id, id, id⟩

theorem setFresh (h : s.Keeps release t) (x : Nat) : s.Keeps release (t.setFresh x) :=
  h.trans ⟨rfl, id, Or.inl, id, id, id, id, id, id⟩

theorem setResetLow (h : s.Keeps release t) (x : Bool) : s.Keeps release (t.setResetLow x) :=
  h.trans ⟨rfl, id, Or.inl, id, id, id, id, id, id⟩

theorem setCyc (h : s.Keeps release t) (x : Cycle) (ho : OffersSorted t.cyc.offers → OffersSorted x.offers) :
    s.Keeps release (t.setCyc x) :=
  h.trans ⟨rfl, id, Or.inl, id, id, id, id, ho, id⟩

/-- Bookkeeping of the cycle that leaves the offers. -/
theorem bookkeep (h : s.Keeps release t) (x : Cycle) (ho : x.offers = t.cyc.offers) :
    s.Keeps release (t.setCyc x) :=
  h.setCyc x fun hs => ho ▸ hs

theorem setTrq (h : s.Keeps release t) (x : RecordQueue) (hq : t.trq.Ok → x.Ok) : s.Keeps release (t.setTrq x) :=
  h.trans ⟨rfl, id, Or.inl, id, id, id, hq, id, id⟩

theorem setSched (h : s.Keeps release t) (x : Schedule) (he : t.TableOk → ∀ n, (x.entries.get n).Ok n) :
    s.Keeps release (t.setSched x) :=
  h.trans ⟨rfl, id, Or.inl, id, id, he, id, id, id⟩

theorem setDisp (h : s.Keeps release t) (x : Dispatcher) (hx : x.holdGuard = t.disp.holdGuard) :
    s.Keeps release (t.setDisp x) :=
  h.trans ⟨rfl, fun ⟨hd, hl⟩ => ⟨hx.trans hd, hl⟩, Or.inl, id, id, id, id, id, id⟩

/-- Output lines: each keeps its pulse's level, and, while the unit is tripped, what the trip has left (R122). -/
theorem setOuts (h : s.Keeps release t) (x : Bank OutLine 8) (hp : ∀ n, (t.outs.get n).Ok → (x.get n).Ok)
    (hs : t.guard.tripped = true → ∀ n,
      (t.outs.get n).HeldSafe (t.guard.safe.get n) → (x.get n).HeldSafe (t.guard.safe.get n)) :
    s.Keeps release (t.setOuts x) :=
  h.trans ⟨rfl, fun ⟨hd, hl, ho⟩ => ⟨hd, hl, fun ht n => hs ht n (ho ht n)⟩, Or.inl, id, id, id, id, id,
    fun ho n => hp n (ho n)⟩

/-- The guard unit with its trip state kept; the safe levels stay while it is tripped (R154). -/
theorem setGuard (h : s.Keeps release t) (x : GuardUnit) (ht : x.tripped = t.guard.tripped)
    (hl : ∀ n, (t.guard.lines.get n).Ok → (x.lines.get n).Ok) (hs : t.guard.tripped = true → x.safe = t.guard.safe) :
    s.Keeps release (t.setGuard x) :=
  h.trans ⟨rfl,
    fun ⟨hd, hok, ho⟩ => ⟨hd.trans ht.symm, fun n => hl n (hok n), fun hx n => by
      have htr := ht.symm.trans hx
      rw [State.setGuard_outs, State.setGuard_guard, hs htr]
      exact ho htr n⟩,
    fun hx => .inl (ht.trans hx), id, id, id, id, id, id⟩

/-- Capture lines: each keeps its form, and the awaited line stays enabled (R41). -/
theorem setCap (h : s.Keeps release t) (x : Bank CapLine 6) (hl : ∀ n, (t.cap.get n).Ok → (x.get n).Ok)
    (he : ∀ n ∈ t.tb.awaited, (t.cap.get n).enabled = true → (x.get n).enabled = true) :
    s.Keeps release (t.setCap x) :=
  h.trans ⟨rfl, id, Or.inl, id, fun ⟨hok, ha⟩ => ⟨fun n => hl n (hok n), fun n hn => he n hn (ha n hn)⟩,
    id, id, id, id⟩

/-- The timebase: it stays in range, and a line that it comes to wait for is enabled (R36). -/
theorem setTb (h : s.Keeps release t) (x : Timebase) (hx : t.tb.Ok → x.Ok)
    (ha : ∀ n ∈ x.awaited, n ∈ t.tb.awaited ∨ (t.cap.get n).enabled = true) : s.Keeps release (t.setTb x) :=
  h.trans ⟨rfl, id, Or.inl, hx, fun ⟨hok, he⟩ => ⟨hok, fun n hn => (ha n hn).elim (he n) id⟩, id, id, id, id⟩

/-- The timebase with its state, its rate and its trim window kept. -/
theorem retime (h : s.Keeps release t) (x : Timebase)
    (hx : (x.state, x.rate, x.position, x.inForce) = (t.tb.state, t.tb.rate, t.tb.position, t.tb.inForce)) :
    s.Keeps release (t.setTb x) := by
  obtain ⟨hs, hr, hp, hf⟩ : x.state = t.tb.state ∧ x.rate = t.tb.rate ∧ x.position = t.tb.position ∧
    x.inForce = t.tb.inForce := by simpa using hx
  exact h.setTb x (fun hok => by rwa [Timebase.Ok, hs, hr, hp, hf])
    fun n hn => .inl (by rwa [Timebase.awaited, hs] at hn)

/-- The timebase moved to RUNNING or STOPPED. -/
theorem restate (h : s.Keeps release t) (x : Timebase) (hs : x.state = .running ∨ x.state = .stopped)
    (hx : (x.rate, x.position, x.inForce) = (t.tb.rate, t.tb.position, t.tb.inForce)) :
    s.Keeps release (t.setTb x) := by
  obtain ⟨hr, hp, hf⟩ : x.rate = t.tb.rate ∧ x.position = t.tb.position ∧ x.inForce = t.tb.inForce := by
    simpa using hx
  refine h.setTb x (fun ⟨_, hok⟩ => ⟨?_, by rwa [hr, hp, hf]⟩) fun n hn => ?_
  · rcases hs with hs | hs <;> rw [hs] <;> trivial
  · rcases hs with hs | hs <;> simp [Timebase.awaited, hs] at hn

theorem setTbState (h : s.Keeps release t) {st : TbState} (hs : st = .running ∨ st = .stopped) :
    s.Keeps release (t.setTbState st) :=
  h.restate _ hs (by rfl)

/-- A trip of the untripped unit (R153). -/
theorem trip (h : s.Keeps release t) : s.Keeps release t.trip := by
  have hsafe : ∀ n, ((goSafe t.guard.safe t.outs).get n).HeldSafe (t.guard.safe.get n) := fun n => by
    rw [goSafe_get]
    cases hl : t.guard.safe.get n <;> simp [OutLine.HeldSafe, OutLine.force, SafeLevel.apply]
  refine h.trans ⟨rfl, fun ⟨_, hl, _⟩ => ⟨rfl, hl, fun _ => hsafe⟩, fun _ => .inl rfl, id, id, id, id, id, ?_⟩
  intro _ n p hp
  have hnone : (t.trip.outs.get n).pulse = none := (hsafe n).1
  rw [hnone] at hp
  cases hp

/-- The end of the hold by a release (R155). -/
theorem untrip (h : s.Keeps release t) (hr : release) :
    s.Keeps release
      ((t.setGuard { t.guard with tripped := false }).setDisp { t.disp with holdGuard := false }) :=
  h.trans ⟨rfl, fun ⟨_, hl, _⟩ => ⟨rfl, hl, nofun⟩, fun _ => .inr hr, id, id, id, id, id, id⟩

end

end State.Keeps

end Sys2Proof.Machine
end

section
/-! What keeps a block in its form: the queue and its port, output lines, capture lines, entries, guard lines, slews. One lemma
per operation on a thing of the block. -/
namespace Sys2Proof.Machine

/-! ## The queue and its port -/

theorem OffersSorted.insert {os : List Offer} (h : OffersSorted os) (o : Offer) : OffersSorted (insertOffer o os) := by
  induction os with
  | nil => simp [OffersSorted, insertOffer]
  | cons p ps ih =>
    obtain ⟨hp, hps⟩ := List.pairwise_cons.1 h
    unfold insertOffer
    split
    next hlt =>
      refine List.pairwise_cons.2 ⟨fun x hx => ?_, h⟩
      rcases List.mem_cons.1 hx with rfl | hx
      · exact hlt.le
      · exact hlt.le.trans (hp x hx)
    next hge =>
      refine List.pairwise_cons.2 ⟨fun x hx => ?_, ih hps⟩
      rcases (mem_insertOffer o x ps).1 hx with rfl | hx
      · exact not_lt.1 hge
      · exact hp x hx

theorem RecordQueue.Ok.take {q : RecordQueue} (h : q.Ok) (o : Offer) : (q.take o).Ok := by
  obtain ⟨hlen, hthreshold⟩ := h
  refine ⟨?_, hthreshold⟩
  by_cases hroom : q.records.length < 32
  · rw [RecordQueue.take_of_room hroom]
    simpa using hroom
  · rw [RecordQueue.take_of_full hroom]
    unfold fullQueue
    split
    · simp; omega
    · split <;> simp <;> omega

theorem RecordQueue.Ok.configure {q : RecordQueue} (h : q.Ok) (data : Byte) : (q.configure data).Ok := by
  refine ⟨h.1, ?_⟩
  simp only [RecordQueue.configure, storedThreshold]
  generalize data.extractLsb' 0 6 = x
  split
  · decide
  · split
    · decide
    · bv_omega

/-! ## Output lines -/

section
variable {l : OutLine} {sl : SafeLevel}

theorem SafeLevel.apply_apply (sl : SafeLevel) (v : Level) : sl.apply (sl.apply v) = sl.apply v := by
  cases sl <;> rfl

/-- A line without a pulse has no level to keep (R112). -/
theorem OutLine.ok_of_pulse_eq_none (h : l.pulse = none) : l.Ok := by
  simp [OutLine.Ok, h]

theorem Deed.act_ok (d : Deed) {outs : Bank OutLine 8} (n : Fin 8) (h : (outs.get n).Ok) :
    ((d.act outs).get n).Ok := by
  cases d with
  | none => exact h
  | set m | clear m | toggle m =>
    simp only [Deed.act, Bank.get_modify]
    split
    · exact OutLine.ok_of_pulse_eq_none rfl
    · exact h
  | pulse m w =>
    simp only [Deed.act, Bank.get_modify]
    split
    · simp [OutLine.Ok, OutLine.startPulse]
    · exact h

theorem OutLine.Ok.endPulse (h : l.Ok) : l.endPulse.Ok := by
  unfold OutLine.endPulse
  split
  · split
    · exact OutLine.ok_of_pulse_eq_none rfl
    · exact h
  · exact h

theorem OutLine.endPulse_of_none (h : l.pulse = none) : l.endPulse = l := by
  simp [OutLine.endPulse, h]

theorem OutLine.Ok.tick (h : l.Ok) : l.tick.Ok := by
  unfold OutLine.tick
  split
  next p hp =>
    rintro _ ⟨⟩
    exact h p hp
  · exact h

theorem OutLine.tick_of_none (h : l.pulse = none) : l.tick = l := by
  simp [OutLine.tick, h]

end

/-! ## Capture lines -/

section
variable {l : CapLine}

theorem Level.eq_inverse_of_ne {v q : Level} (h : v ≠ q) : q = v.inverse := by
  cases v <;> cases q <;> simp_all [Level.inverse]

/-- A sample moves the qualified level and the run alone; a run that it keeps is sound (R44, R46). -/
theorem CapLine.advance_ok {r : Run} (hl : l.level = some r.candidate.inverse) (hr : 1 ≤ r.count) (hen : l.enabled = true)
    (hi : l.interval.toNat < 2 ^ l.divisor.toNat) : ({ (l.advance r).1 with due := false } : CapLine).Ok := by
  unfold CapLine.advance
  split
  next hlt => exact ⟨by simp [hen], hi, by rintro _ ⟨⟩; exact ⟨hl, hr, hlt⟩⟩
  next => exact ⟨by simp [CapLine.complete, hen], hi, by simp [CapLine.complete]⟩

theorem CapLine.Ok.enabled_of_due (h : l.Ok) (hd : l.due = true) : l.enabled = true := by
  by_contra hen
  have := h.1 (Bool.eq_false_iff.2 hen)
  simp_all

theorem CapLine.Ok.sample (h : l.Ok) (hd : l.due = true) (v : Level) (t : Ticks) (e : Epoch) (f : Bool) :
    ({ (l.sample v t e f).1 with due := false } : CapLine).Ok := by
  have hen := h.enabled_of_due hd
  obtain ⟨-, hi, hrun⟩ := h
  unfold CapLine.sample
  split
  next => exact ⟨by simp [hen], hi, by simp⟩
  next q hl hr =>
    split
    next => exact ⟨by simp [hen], hi, by simp [hr]⟩
    next hv => exact CapLine.advance_ok (by rw [hl, Level.eq_inverse_of_ne hv]) le_rfl hen hi
  next q r hl hr =>
    split
    next => exact ⟨by simp [hen], hi, by simp⟩
    next hv =>
      obtain ⟨hlevel, hcount, -⟩ := hrun r hr
      exact CapLine.advance_ok hlevel (by simp) hen hi

theorem CapLine.sample_enabled (v : Level) (t : Ticks) (e : Epoch) (f : Bool) (l : CapLine) :
    (l.sample v t e f).1.enabled = l.enabled := by
  unfold CapLine.sample CapLine.advance CapLine.complete
  split
  · rfl
  · split
    · rfl
    · split <;> rfl
  · split
    · rfl
    · split <;> rfl

theorem CapLine.Ok.tick (h : l.Ok) : l.tick.Ok := by
  obtain ⟨hoff, hi, hrun⟩ := h
  unfold CapLine.tick
  split
  next hen =>
    refine ⟨by simp [hen], ?_, hrun⟩
    have hlt := Nat.mod_lt (l.interval.toNat + 1) (Nat.two_pow_pos l.divisor.toNat)
    exact lt_of_le_of_lt (Nat.mod_le _ _) hlt
  next hen =>
    obtain ⟨hlevel, hr, -, hz⟩ := hoff (Bool.eq_false_iff.2 hen)
    exact ⟨fun _ => ⟨hlevel, hr, rfl, hz⟩, hi, hrun⟩

theorem CapLine.tick_enabled (l : CapLine) : l.tick.enabled = l.enabled := by
  unfold CapLine.tick
  split <;> rfl

theorem CapLine.Ok.writeControl (h : l.Ok) (on : Bool) (d q : BitVec 3) : (l.writeControl on d q).Ok := by
  obtain ⟨hoff, -, -⟩ := h
  cases hen : l.enabled <;> cases on
  case false.false =>
    obtain ⟨hlevel, hr, hd, hz⟩ := hoff hen
    simp [CapLine.writeControl, CapLine.Ok, hen, hlevel, hr, hd, hz]
  all_goals simp [CapLine.writeControl, CapLine.Ok, hen]

theorem CapLine.writeControl_enabled (on : Bool) (d q : BitVec 3) : (l.writeControl on d q).enabled = on := by
  unfold CapLine.writeControl
  cases l.enabled <;> cases on <;> rfl

theorem CapLine.Ok.writeConfig (h : l.Ok) (reg : CapByte) (data : Byte) : (l.writeConfig reg data).Ok := by
  cases reg <;> exact h

theorem CapLine.writeConfig_enabled (reg : CapByte) (data : Byte) : (l.writeConfig reg data).enabled = l.enabled := by
  cases reg <;> rfl

theorem CapLine.reset_ok : CapLine.reset.Ok := by
  simp [CapLine.Ok, CapLine.reset]

end

/-! ## Guard lines -/

section
variable {l : GuardLine}

/-- The count that a sample leaves: 1 for a run that begins, or one more than that of a run which goes on below n (R149). -/
theorem GuardState.count_sample {active : Bool} {n c : Nat} {g : GuardState} (h : (g.sample active n).count = some c) :
    c = 1 ∨ ∃ c', g.count = some c' ∧ c = c' + 1 ∧ c < n := by
  cases g <;> cases active <;> simp only [GuardState.sample] at h
  all_goals try split at h
  all_goals simp_all [GuardState.count]

theorem GuardLine.Ok.sample (h : l.Ok) {terms : GuardTerms} (hd : l.due = some terms) (active : Bool) :
    ({ l with state := l.state.sample active terms.qual.toNat, due := none } : GuardLine).Ok := by
  obtain ⟨hqual, hoff, hcount, hdue⟩ := h
  obtain ⟨-, hterms⟩ := hdue terms hd
  refine ⟨hqual, fun hen => ?_, fun c hc => ?_, nofun⟩
  · have := (hoff hen).2
    simp_all
  · rcases GuardState.count_sample hc with rfl | ⟨c', hc', rfl, hlt⟩
    · exact ⟨le_rfl, .inl rfl⟩
    · rcases hterms with rfl | hnone
      · exact ⟨by omega, .inr hlt⟩
      · simp_all

theorem GuardLine.Ok.tick (h : l.Ok) (b : Bool) : (l.tick b).Ok := by
  obtain ⟨hqual, hoff, hcount, -⟩ := h
  refine ⟨hqual, fun hen => ⟨(hoff hen).1, ?_⟩, hcount, fun terms ht => ?_⟩
  · have hen' : l.enabled = false := hen
    simp [GuardLine.tick, hen']
  · simp only [GuardLine.tick, Option.mem_def, Option.ite_none_right_eq_some, Option.some.injEq] at ht
    obtain ⟨-, rfl⟩ := ht
    exact ⟨hqual, .inl rfl⟩

theorem one_le_storedQual (q : BitVec 4) : 1 ≤ (storedQual q).toNat := by
  unfold storedQual
  split <;> bv_omega

theorem GuardState.count_abandon (g : GuardState) : g.abandon.count = none := by
  cases g <;> rfl

theorem GuardLine.Ok.write (h : l.Ok) (on : Bool) (active : Level) (q : BitVec 4) : (l.write on active q).Ok := by
  obtain ⟨-, -, -, hdue⟩ := h
  by_cases hboth : (l.enabled && on) = true
  · have hstate : (l.write on active q).state = l.state.abandon := if_pos hboth
    have hdue' : (l.write on active q).due = l.due := if_pos hboth
    have hon : on = true := (Bool.and_eq_true_iff.1 hboth).2
    refine ⟨one_le_storedQual q, fun hen => absurd hon (Bool.eq_false_iff.1 hen), ?_, fun terms ht => ?_⟩
    · simp [hstate, GuardState.count_abandon]
    · exact ⟨(hdue terms (hdue' ▸ ht)).1, .inr (hstate ▸ GuardState.count_abandon _)⟩
  · have hstate : (l.write on active q).state = .inactive := if_neg hboth
    have hdue' : (l.write on active q).due = none := if_neg hboth
    exact ⟨one_le_storedQual q, fun _ => ⟨hstate, hdue'⟩, by simp [hstate, GuardState.count], by simp [hdue']⟩

end

/-! ## Entries -/

section
variable {n : Fin 32} {e : Entry} {p : Plan} {k : Kept}

theorem Kept.start_remaining (p : Plan) (epoch : Option Epoch) : (Kept.start p epoch).remaining = p.cadence.limit := by
  unfold Kept.start
  cases p.cadence <;> rfl

theorem Entry.armed_start_ok (h : p.Ok n) (epoch : Epoch) : (Entry.armed p (Kept.start p (some epoch)) false).Ok n := by
  obtain ⟨hperiod, hlimit, hrest⟩ := h
  exact ⟨⟨hperiod, hlimit, hrest⟩, by rw [Kept.start_remaining], by simp [Kept.start], by rwa [Kept.start_remaining]⟩

theorem Entry.skipPeriodic_ok {late : Bool} (h : (Entry.armed p k late).Ok n) (t : Ticks) (period : Span) :
    (skipPeriodic t p k period).Ok n := by
  obtain ⟨hp, hlimit, hepoch, hleft⟩ := h
  unfold skipPeriodic
  dsimp only
  cases hr : k.remaining with
  | none =>
    rw [hr] at hlimit
    dsimp only
    split
    · exact ⟨hp, hlimit, hepoch, by simp⟩
    · exact ⟨hp, hlimit⟩
  | some r =>
    rw [hr] at hlimit
    dsimp only
    split
    next hlt =>
      have hne : r - BitVec.ofNat 16 (stepsPast t.toNat p.due.toNat period.toNat) ≠ 0 := by
        generalize stepsPast t.toNat p.due.toNat period.toNat = m at *
        intro h0
        have := congrArg BitVec.toNat (BitVec.sub_eq_iff_eq_add.1 h0)
        bv_omega
      split
      · exact ⟨hp, hlimit, hepoch, by simpa using hne⟩
      · exact ⟨hp, hlimit⟩
    next => exact ⟨hp, hlimit⟩

theorem Entry.Ok.treat (h : e.Ok n) (t : Ticks) : (e.treat t).Ok n := by
  unfold Entry.treat
  split
  next p k =>
    split
    · split
      · exact h
      · unfold skipOverdue
        split
        · exact ⟨h.1, h.2.1⟩
        · exact Entry.skipPeriodic_ok h t _
    · exact h
  next => exact h

theorem Entry.Ok.finish (h : e.Ok n) (f : Fate) : (e.finish f).Ok n := by
  cases e with
  | free => exact h
  | parked p k =>
    obtain ⟨hp, rfl⟩ := h
    exact ⟨hp, by rw [Kept.start_remaining]⟩
  | armed p k late => exact ⟨h.1, h.2.1⟩
  | done f' p k => exact h

theorem Entry.Ok.stale (h : e.Ok n) : e.stale.Ok n := by
  unfold Entry.stale
  split
  · split
    · exact h.finish _
    · exact h
  · split
    · exact h.finish _
    · exact h
  · exact h

theorem Entry.Ok.unmark (h : e.Ok n) (t : Ticks) : (e.unmark t).Ok n := by
  unfold Entry.unmark
  split <;> exact h

theorem Entry.Ok.overtaken (h : e.Ok n) : e.overtaken.Ok n := by
  unfold Entry.overtaken
  split <;> exact h

theorem Entry.armParked_ok (h : (Entry.parked p k).Ok n) (t : Ticks) (epoch : Epoch) (due : Nat) :
    (armParked t epoch due p k).Ok n := by
  obtain ⟨hp, rfl⟩ := h
  have harmed : (Entry.armed (p.at due) (Kept.start (p.at due) (some epoch)) false).Ok n := Entry.armed_start_ok hp epoch
  exact harmed.treat t

theorem Entry.refire_ok {late : Bool} (h : (Entry.armed p k late).Ok n) (t : Ticks) (period : Span) :
    (refire t p k period).Ok n := by
  obtain ⟨hp, hlimit, hepoch, -⟩ := h
  unfold refire
  dsimp only
  cases hr : k.remaining with
  | none =>
    rw [hr] at hlimit
    dsimp only
    split
    · exact ⟨hp, hlimit, hepoch, by simp⟩
    · exact ⟨hp, hlimit⟩
  | some r =>
    rw [hr] at hlimit
    dsimp only
    split
    next hlt =>
      refine ⟨hp, hlimit, hepoch, ?_⟩
      generalize stepsPast t.toNat p.due.toNat period.toNat - 1 = m at *
      simp only [ne_eq, Option.some.injEq]
      bv_omega
    next => exact ⟨hp, hlimit⟩

theorem Entry.fateOf_ok {late : Bool} (h : (Entry.armed p k late).Ok n) (t : Ticks) : (fateOf t p k).Ok n := by
  unfold fateOf
  split
  · exact ⟨h.1, h.2.1⟩
  · have hfired : (Entry.armed p (k.fired t) late).Ok n := h
    exact Entry.refire_ok hfired t _

theorem Staging.plan_ok {g : Staging} (h : g.plan n = some p) : p.Ok n := by
  obtain ⟨hdeed, hcadence, hlink, -⟩ := Staging.plan_eq_some h
  have hpass : ¬g.Fails n := fun hf => by rw [Staging.plan_eq_none_iff.2 hf] at h; cases h
  simp only [Staging.Fails, not_or, not_and, not_lt] at hpass
  obtain ⟨-, hwidth, hperiod, hlimit, hself, -⟩ := hpass
  refine ⟨?_, ?_, ?_, ?_⟩
  · rw [Staging.cadence_eq_some hcadence]
    split
    next hp => simpa [Cadence.period] using hperiod hp
    next => simp [Cadence.period]
  · rw [Staging.cadence_eq_some hcadence]
    split
    next hp =>
      split
      next hl => simpa [Cadence.limit] using hlimit hp hl
      next => simp [Cadence.limit]
    next => simp [Cadence.limit]
  · rw [(Staging.deed_eq_some hdeed).2.2]
    split
    next ha => simpa using hwidth ha
    next => simp
  · intro l hl heq
    have hcopy := Staging.linkFor_eq_some hlink
    rw [Option.mem_def.1 hl] at hcopy
    split at hcopy
    next hp =>
      simp only [Option.map_some, Option.some.injEq, Prod.mk.injEq] at hcopy
      exact hself hp (by rw [← hcopy.1, heq])
    next => simp at hcopy

end

/-! ## The timebase -/

theorem TrimWindow.cycles_pos (w : TrimWindow) : 0 < w.cycles := by
  cases w <;> decide

/-- A slew that has not ended stays between 0 and its starting amount (R4, R15, R32). -/
theorem Slew.Ok.count1 {sl : Slew} (h : sl.Ok) (b : Bool) (hne : (sl.count1 b).remainder ≠ 0) : (sl.count1 b).Ok := by
  obtain ⟨hbetween, hamount⟩ := h
  refine ⟨?_, hamount⟩
  simp only [Slew.count1, tickToward] at hne ⊢
  split_ifs at hne ⊢ <;> omega

theorem Timebase.Ok.countCycle {tb : Timebase} (h : tb.Ok) (hp : tb.position < tb.inForce.window.cycles) :
    tb.countCycle.Ok := by
  obtain ⟨hst, hlo, hhi, -⟩ := h
  refine ⟨?_, hlo, hhi, hp⟩
  simp only [Timebase.countCycle, Timebase.countedState]
  split
  next sl hsl =>
    rw [hsl] at hst
    split
    · trivial
    · exact Slew.Ok.count1 hst _ ‹_›
  next => exact hst

theorem Timebase.awaited_countCycle (tb : Timebase) : tb.countCycle.awaited = tb.awaited := by
  unfold Timebase.countCycle Timebase.countedState Timebase.awaited
  cases tb.state with
  | slewing sl => by_cases hr : (sl.count1 tb.trimModified).remainder = 0 <;> simp [hr]
  | _ => rfl

theorem Timebase.Ok.endWindow {tb : Timebase} (h : tb.Ok) : tb.endWindow.Ok := by
  obtain ⟨hst, hlo, hhi, hp⟩ := h
  unfold Timebase.endWindow
  split
  · exact ⟨hst, hlo, hhi, Nat.zero_le _⟩
  · exact ⟨hst, hlo, hhi, hp⟩

theorem Timebase.endWindow_position_lt (tb : Timebase) :
    tb.endWindow.position < tb.endWindow.inForce.window.cycles := by
  unfold Timebase.endWindow
  split
  · exact TrimWindow.cycles_pos _
  next h => exact not_le.1 h

theorem Timebase.endWindow_state (tb : Timebase) : tb.endWindow.state = tb.state := by
  unfold Timebase.endWindow
  split <;> rfl

theorem EdgeWait.cancelled_cases (w : EdgeWait) : w.cancelled = .running ∨ w.cancelled = .stopped := by
  unfold EdgeWait.cancelled
  split <;> simp

theorem Timebase.awaited_pinReset (tb : Timebase) : tb.pinReset.awaited = none := by
  unfold Timebase.pinReset
  split
  next w _ => rcases w.cancelled_cases with h | h <;> simp [Timebase.awaited, h]
  next hst =>
    unfold Timebase.awaited
    split
    next w hw => exact absurd hw (hst w)
    next => rfl

theorem storedRate_range (data : Byte) : 4 ≤ (storedRate data).toNat ∧ (storedRate data).toNat ≤ 16 := by
  simp only [storedRate, BitVec.toNat_ofNat]
  omega

end Sys2Proof.Machine
end

section
/-! The shared operations and the events of a cycle keep what `State.Keeps` collects, each as the chain of updates that its
definition writes. -/
namespace Sys2Proof.Machine

/-! ## The reset values -/

theorem State.reset_guardOk : State.reset.GuardOk := by
  refine ⟨rfl, fun n => ?_, nofun⟩
  rw [show State.reset.guard.lines.get n = _ from Bank.get_fill _ n]
  simp [GuardLine.Ok, GuardState.count]

theorem Timebase.reset_ok : Timebase.reset.Ok :=
  ⟨trivial, by decide, by decide, Nat.zero_le _⟩

theorem State.reset_captureOk : State.reset.CaptureOk :=
  ⟨fun n => by rw [show State.reset.cap.get n = _ from Bank.get_fill _ n]; exact CapLine.reset_ok, nofun⟩

theorem Schedule.reset_ok (n : Fin 32) : (Schedule.reset.entries.get n).Ok n := by
  rw [show Schedule.reset.entries.get n = _ from Bank.get_fill _ n]
  trivial

theorem RecordQueue.reset_ok : RecordQueue.reset.Ok := by decide

theorem State.reset_pulses (n : Fin 8) : (State.reset.outs.get n).Ok :=
  OutLine.ok_of_pulse_eq_none (congrArg OutLine.pulse (Bank.get_fill OutLine.reset n))

/-- Settles O60: each block's reset values, read off. -/
theorem resetIsSound : Obligations.ResetIsSound :=
  ⟨State.reset_guardOk, Timebase.reset_ok, State.reset_captureOk, Schedule.reset_ok, RecordQueue.reset_ok,
    List.Pairwise.nil, State.reset_pulses⟩

theorem State.Keeps.powerOn {release : Prop} (hr : release) (s : State) :
    s.Keeps release ((State.reset.setPending s.pending).setFresh s.fresh) where
  pending := rfl
  guard _ := State.reset_guardOk
  tripped _ := .inr hr
  timebase _ := Timebase.reset_ok
  capture _ := State.reset_captureOk
  table _ := Schedule.reset_ok
  queue _ := RecordQueue.reset_ok
  offers _ := List.Pairwise.nil
  pulses _ := State.reset_pulses

namespace State.Keeps

variable {release : Prop} {s t : State}

/-! ## Flags, offers and the queue -/

theorem raise (h : s.Keeps release t) (f : Flag) : s.Keeps release (t.raise f) := by
  unfold State.raise
  split
  · exact h
  · exact h.setIcu _

theorem raiseIf (h : s.Keeps release t) (b : Bool) (f : Flag) : s.Keeps release (t.raiseIf b f) := by
  cases b with
  | false => exact h
  | true => exact h.raise f

theorem setResult (h : s.Keeps release t) (strobe : Byte) (code : ResultCode) :
    s.Keeps release (t.setResult strobe code) :=
  (h.setIcu _).raiseIf _ _

theorem offer (h : s.Keeps release t) (o : Offer) : s.Keeps release (t.offer o) :=
  h.setCyc _ fun ho => ho.insert o

theorem offerStep (h : s.Keeps release t) (src : StepSource) (back : Bool) (a : Int) :
    s.Keeps release (t.offerStep src back a) :=
  h.offer _

theorem takeOffer (h : s.Keeps release t) (o : Offer) : s.Keeps release (t.takeOffer o) :=
  (h.setTrq _ fun hq => hq.take o).raiseIf _ _

theorem drainAll (h : s.Keeps release t) : s.Keeps release t.drainAll :=
  foldl (fun t o => (refl _ t).takeOffer o) (h.setCyc _ fun _ => List.Pairwise.nil) _

theorem drainReady (h : s.Keeps release t) : s.Keeps release t.drainReady :=
  foldl (fun t o => (refl _ t).takeOffer o) (h.setCyc _ fun ho => ho.filter _) _

/-! ## Output lines -/

theorem takeAction (h : s.Keeps release t) (d : Deed) : s.Keeps release (t.takeAction d) := by
  unfold State.takeAction
  split
  next => exact h
  next ht => exact h.setOuts _ (fun n => d.act_ok n) fun htr => absurd htr ht

theorem deliverAction (h : s.Keeps release t) : s.Keeps release t.deliverAction := by
  unfold State.deliverAction
  split
  · exact h
  · exact State.Keeps.takeAction (h.bookkeep _ (by rfl)) _

theorem handAction (h : s.Keeps release t) (order : ActionOrder) (d : Deed) :
    s.Keeps release (t.handAction order d) := by
  cases order with
  | actionFirst => exact h.takeAction d
  | afterTrip => exact (h.bookkeep _ (by rfl))

/-- A change of each line that keeps pulses at their level and does nothing to a line without a pulse. -/
theorem mapOuts (h : s.Keeps release t) (f : OutLine → OutLine) (hok : ∀ l, l.Ok → (f l).Ok)
    (hnone : ∀ l, l.pulse = none → f l = l) : s.Keeps release (t.setOuts (t.outs.map f)) :=
  h.setOuts _ (fun n hn => by rw [Bank.get_map]; exact hok _ hn)
    fun _ n hn => by rw [Bank.get_map, hnone _ hn.1]; exact hn

/-- A change of one line. -/
theorem modifyOut (h : s.Keeps release t) (n : Fin 8) {f : OutLine → OutLine} (hok : ∀ l, l.Ok → (f l).Ok)
    (hsafe : t.guard.tripped = true → ∀ l sl, l.HeldSafe sl → (f l).HeldSafe sl) :
    s.Keeps release (t.setOuts (t.outs.modify n f)) := by
  refine h.setOuts _ (fun m hm => ?_) fun ht m hm => ?_ <;> rw [Bank.get_modify] <;> split
  · exact hok _ hm
  · exact hm
  · exact hsafe ht _ _ hm
  · exact hm

theorem endPulse (h : s.Keeps release t) (n : Fin 8) : s.Keeps release (t.endPulse n) :=
  h.modifyOut n (fun _ hl => hl.endPulse) fun _ l sl hl => by rw [OutLine.endPulse_of_none hl.1]; exact hl

theorem endPulses (h : s.Keeps release t) : s.Keeps release t.endPulses :=
  h.mapOuts _ (fun _ hl => hl.endPulse) fun _ => OutLine.endPulse_of_none

/-! ## Entries and notices -/

theorem setEntry (h : s.Keeps release t) (n : Fin 32) (e : Entry) (he : (t.entry n).Ok n → e.Ok n) :
    s.Keeps release (t.setEntry n e) :=
  h.setSched _ fun ht m => by
    rw [Bank.get_set]
    split
    next hnm => exact hnm ▸ he (ht n)
    next => exact ht m

theorem mapEntries (h : s.Keeps release t) {f : Entry → Entry} (hf : ∀ n e, Entry.Ok n e → (f e).Ok n) :
    s.Keeps release (t.mapEntries f) :=
  h.setSched _ fun ht n => by rw [Bank.get_map]; exact hf n _ (ht n)

theorem sweep (h : s.Keeps release t) (now : Ticks) : s.Keeps release (t.sweep now) :=
  h.mapEntries fun _ _ he => he.treat now

theorem takeNotice (h : s.Keeps release t) (x : Notice) : s.Keeps release (t.takeNotice x) := by
  have hmap : s.Keeps release (t.mapEntries fun e => (e.stale).unmark x.time) :=
    h.mapEntries fun _ _ he => he.stale.unmark x.time
  unfold State.takeNotice
  dsimp only
  split
  · exact hmap.sweep x.time
  · exact hmap

theorem overtake (h : s.Keeps release t) : s.Keeps release t.overtake := by
  refine State.Keeps.bookkeep (h.setSched _ fun ht n => ?_) _ (by rfl)
  rw [Bank.get_ofFn]
  split
  · exact (ht n).overtaken
  · exact ht n

theorem takeNotices (h : s.Keeps release t) : s.Keeps release t.takeNotices := by
  unfold State.takeNotices
  split
  · exact h
  · exact foldl (fun t x => (refl _ t).takeNotice x) (h.overtake.bookkeep _ (by rfl)) _

theorem giveNotice (h : s.Keeps release t) (sweep : Bool) : s.Keeps release (t.giveNotice sweep) :=
  (h.bookkeep _ (by rfl))

theorem orderNotice (h : s.Keeps release t) (order : NoticeOrder) : s.Keeps release (t.orderNotice order) := by
  cases order with
  | noticeFirst => exact h.takeNotices
  | noticeLast => exact h

theorem noteArming (h : s.Keeps release t) (n : Fin 32) : s.Keeps release (t.noteArming n) :=
  (h.bookkeep _ (by rfl))

theorem schedFault (h : s.Keeps release t) (f : SchedFault) : s.Keeps release (t.schedFault f) :=
  State.Keeps.raise (h.setDisp _ (by rfl)) _

theorem requestArm (h : s.Keeps release t) (n : Fin 32) (due : Nat) (miss : SchedFault) :
    s.Keeps release (t.requestArm n due miss).1 := by
  unfold State.requestArm
  split
  next p k he =>
    split
    · exact h.setEntry _ _ fun hok => Entry.armParked_ok (he ▸ hok) _ _ _
    · exact h.schedFault _
  next => exact h.schedFault _

/-! ## Steps of the time value -/

theorem stepTime (h : s.Keeps release t) (v : Ticks) (src : StepSource) (back : Bool) (a : Int) :
    s.Keeps release (t.stepTime v src back a) :=
  State.Keeps.offerStep (State.Keeps.bookkeep (h.retime _ (by rfl)) _ (by rfl)) _ _ _

theorem offerSlewEnd (h : s.Keeps release t) : s.Keeps release t.offerSlewEnd := by
  unfold State.offerSlewEnd
  split
  · exact h
  · exact (State.Keeps.offerStep (h.bookkeep _ (by rfl)) _ _ _).raise _

theorem applyWrap (h : s.Keeps release t) : s.Keeps release t.applyWrap :=
  (((State.Keeps.offerStep (State.Keeps.bookkeep (h.retime _ (by rfl)) _ (by rfl)) _ _ _).giveNotice _).raise _).offerSlewEnd

theorem takeWrap (h : s.Keeps release t) : s.Keeps release t.takeWrap := by
  unfold State.takeWrap
  split
  · exact h.applyWrap.takeNotices
  · exact h.takeNotices

theorem applyEdgeLoad (h : s.Keeps release t) (w : EdgeWait) : s.Keeps release (t.applyEdgeLoad w) :=
  (((h.stepTime _ _ _ _).restate _ (.inl rfl) (by rfl)).giveNotice _).raise _ |>.takeNotices

/-! ## Capture samples -/

theorem triggerEdge (h : s.Keeps release t) (n : Fin 6) (time : Ticks) (epoch : Epoch) :
    s.Keeps release (t.triggerEdge n time epoch).1 := by
  unfold State.triggerEdge
  split
  · exact h
  · split
    · exact h.schedFault _
    · exact h.requestArm _ _ _

theorem finishEdge (h : s.Keeps release t) (n : Fin 6) (rising : Bool) (time : Ticks) (epoch : Epoch) (frozen : Bool) :
    s.Keeps release (t.finishEdge n rising time epoch frozen) := by
  unfold State.finishEdge
  dsimp only
  split
  · exact (h.triggerEdge _ _ _).offer _
  · exact h.triggerEdge _ _ _

theorem completeEdge (h : s.Keeps release t) (n : Fin 6) (c : Completion) : s.Keeps release (t.completeEdge n c) := by
  unfold State.completeEdge
  split
  · split
    · exact (h.applyEdgeLoad _).finishEdge _ _ _ _ _
    · exact h.finishEdge _ _ _ _ _
  · exact h.finishEdge _ _ _ _ _

/-- A change of one capture line that leaves its enable. -/
theorem modifyCap (h : s.Keeps release t) (n : Fin 6) (l : CapLine) (hok : (t.cap.get n).Ok → l.Ok)
    (hen : l.enabled = (t.cap.get n).enabled) : s.Keeps release (t.setCap (t.cap.set n l)) := by
  refine h.setCap _ (fun m hm => ?_) fun m _ hm => ?_ <;> rw [Bank.get_set] <;> split
  next hnm => subst hnm; exact hok hm
  next => exact hm
  next hnm => subst hnm; rwa [hen]
  next => exact hm

theorem takeCapture (h : s.Keeps release t) (n : Fin 6) : s.Keeps release (t.takeCapture n) := by
  unfold State.takeCapture
  split
  next hd =>
    have hset := h.modifyCap n { (t.sampleOf n).1 with due := false } (fun hl => hl.sample hd _ _ _ _)
      (CapLine.sample_enabled _ _ _ _ _)
    dsimp only
    split
    · exact hset
    · exact hset.completeEdge _ _
  next => exact h

/-! ## Guard samples -/

theorem activate (h : s.Keeps release t) (n : Fin 2) : s.Keeps release (t.activate n) := by
  unfold State.activate
  dsimp only
  split
  · exact (h.offer _).raise _
  · exact (h.offer _).trip.raise _

/-- A change of one guard line. -/
theorem setGuardLine (h : s.Keeps release t) (n : Fin 2) {l : GuardLine} (hl : (t.guard.lines.get n).Ok → l.Ok) :
    s.Keeps release (t.setGuard { t.guard with lines := t.guard.lines.set n l }) := by
  refine h.setGuard _ rfl (fun m hm => ?_) fun _ => rfl
  rw [Bank.get_set]
  split
  next hnm => subst hnm; exact hl hm
  next => exact hm

theorem sampleGuard (h : s.Keeps release t) (n : Fin 2) : s.Keeps release (t.sampleGuard n) := by
  unfold State.sampleGuard
  dsimp only
  split
  next terms hd =>
    have hset := h.setGuardLine n (fun hl => hl.sample hd (decide (t.guardLevel n = terms.activeLevel)))
    split
    · exact hset.activate n
    · exact hset
  next => exact h

theorem takeGuard (h : s.Keeps release t) : s.Keeps release t.takeGuard := by
  unfold State.takeGuard
  split
  · exact ((h.sampleGuard 0).sampleGuard 1).deliverAction
  · exact h

/-! ## Dispatch -/

theorem followLink (h : s.Keeps release t) (i : Fin 32) (p : Plan) : s.Keeps release (t.followLink i p).1 := by
  unfold State.followLink
  split
  · exact h
  · dsimp only
    split
    · exact h.requestArm _ _ _
    · exact (h.requestArm _ _ _).noteArming _

end State.Keeps

/-- A link or trigger request reaches no entry that is not PARKED (R51, R89). -/
theorem State.entry_requestArm_of_armed {s : State} {i : Fin 32} {p : Plan} {k : Kept} {late : Bool}
    (h : s.entry i = .armed p k late) (n : Fin 32) (due : Nat) (miss : SchedFault) :
    (s.requestArm n due miss).1.entry i = .armed p k late := by
  unfold State.requestArm
  split
  next hn =>
    split
    · rw [State.entry_setEntry, if_neg]
      · exact h
      · rintro rfl
        rw [h] at hn
        cases hn
    · simpa [State.entry, State.schedFault] using h
  next => simpa [State.entry, State.schedFault] using h

theorem State.entry_followLink_of_armed {s : State} {i : Fin 32} {p : Plan} {k : Kept} {late : Bool}
    (h : s.entry i = .armed p k late) (q : Plan) : (s.followLink i q).1.entry i = .armed p k late := by
  unfold State.followLink
  split
  · exact h
  next l _ =>
    have hreq := State.entry_requestArm_of_armed h l.entry (q.due.toNat + l.offset.toNat) (.linkMiss i)
    dsimp only
    split <;> exact hreq

namespace State.Keeps

variable {release : Prop} {s t : State}

theorem fire (h : s.Keeps release t) (order : ActionOrder) {i : Fin 32} {p : Plan} {k : Kept} {late : Bool}
    (hi : t.entry i = .armed p k late) : s.Keeps release (t.fire order i p k late) := by
  have hhand : (t.handAction order p.deed).entry i = .armed p k late := by simpa [State.entry] using hi
  have hlink := (h.handAction order p.deed).followLink i p
  have hset := hlink.setEntry i (fateOf t.presented.time p k) fun hok =>
    Entry.fateOf_ok (State.entry_followLink_of_armed hhand p ▸ hok) _
  unfold State.fire
  dsimp only
  split
  · exact hset.offer _
  · exact hset

theorem dispatchHead (h : s.Keeps release t) (order : ActionOrder) : s.Keeps release (t.dispatchHead order) := by
  unfold State.dispatchHead
  split
  · exact h
  · split
    next hi => exact h.fire order hi
    next => exact h

theorem takeDispatch (h : s.Keeps release t) (order : ActionOrder) : s.Keeps release (t.takeDispatch order) := by
  unfold State.takeDispatch
  split
  · exact h
  · exact State.Keeps.dispatchHead (h.bookkeep _ (by rfl)) order

/-! ## From one cycle to the next -/

theorem takeSamples (h : s.Keeps release t) : s.Keeps release t.takeSamples :=
  foldl (fun t n => (refl _ t).takeCapture n) h.takeGuard _

theorem endWindow (h : s.Keeps release t) : s.Keeps release t.endWindow :=
  h.setTb _ (fun hok => hok.endWindow) fun n hn => .inl (by
    rwa [Timebase.awaited, Timebase.endWindow_state] at hn)

theorem fetch (h : s.Keeps release t) : s.Keeps release t.fetch := by
  unfold State.fetch
  split
  · exact State.Keeps.setFresh (h.setSp _) _
  · exact h.setSp _
  · exact h

theorem endSlew (h : s.Keeps release t) : s.Keeps release (t.setTb t.tb.endSlew) := by
  unfold Timebase.endSlew
  split
  · exact h.restate _ (.inl rfl) (by rfl)
  · exact h

theorem endCycle (h : s.Keeps release t) : s.Keeps release t.endCycle :=
  State.Keeps.endSlew (State.Keeps.setPins
    (h.takeSamples.takeWrap.offerSlewEnd.deliverAction.endPulses.takeDispatch _).endWindow.drainAll.fetch _)

theorem tick (h : s.Keeps release t) (pins : InputPins) (frozen : Bool) : s.Keeps release (t.tick pins frozen) := by
  have hcap := ((h.setPins { t.pins with now := pins, before := t.pins.now, sampled := t.pins.before }).setSp
    (if pins.csLow then t.sp.select t.resetLow else t.sp)).setCap (t.cap.map CapLine.tick)
    (fun n hn => by rw [Bank.get_map]; exact CapLine.Ok.tick hn)
    (fun n _ hn => by rw [Bank.get_map, CapLine.tick_enabled]; exact hn)
  have houts := hcap.mapOuts OutLine.tick (fun _ hl => hl.tick) fun _ => OutLine.tick_of_none
  have hguard := houts.setGuard t.guard.tick rfl
    (fun n hn => by simp only [GuardUnit.tick, Bank.get_map]; exact GuardLine.Ok.tick hn _) (fun _ => rfl)
  exact (hguard.setFresh (t.fresh + 1)).setCyc _ fun _ => List.Pairwise.nil

/-- A counting cycle begins only where the trim window has a cycle left, which the end of the cycle before sees to (R13). -/
theorem beginCounting (h : s.Keeps release t) (pins : InputPins) (order : EndOrder)
    (hp : t.tb.position < t.tb.inForce.window.cycles) : s.Keeps release (t.beginCounting pins order) := by
  have htb := (h.tick pins false).setTb t.tb.countCycle
    (fun hok => by rw [(t.tick_frame pins false).1] at hok; exact hok.countCycle hp)
    (fun n hn => .inl (by rw [Timebase.awaited_countCycle] at hn; rw [(t.tick_frame pins false).1]; exact hn))
  have hcyc := htb.bookkeep { ((t.tick pins false).setTb t.tb.countCycle).cyc with
    wrapDue := decide (Config.timeModulus ≤ t.tb.counted), slewEndDue := t.tb.slewEnds } rfl
  unfold State.beginCounting
  cases order with
  | endFirst =>
    dsimp only
    split
    · exact hcyc
    · exact hcyc.offerSlewEnd
  | endLast => exact hcyc

end State.Keeps

theorem State.endCycle_position_lt (s : State) : s.endCycle.tb.position < s.endCycle.tb.inForce.window.cycles := by
  have hslew : ∀ tb : Timebase, tb.endSlew.position = tb.position ∧ tb.endSlew.inForce = tb.inForce := fun tb => by
    unfold Timebase.endSlew
    split <;> exact ⟨rfl, rfl⟩
  unfold State.endCycle
  simp only [State.setTb_tb, hslew, State.refreshPins_frame, State.fetch_frame, State.drainAll_frame, State.endWindow]
  exact Timebase.endWindow_position_lt _

end Sys2Proof.Machine
end

section
/-! Every row of the table keeps what `State.Keeps` collects: the owners of the strobes and registers, the port, the resets, and
last `exec` itself, arm by arm. -/
namespace Sys2Proof.Machine

namespace State.Keeps

variable {release : Prop} {s t : State}

/-! ## Strobes and register writes -/

theorem command {owner : State → State × ResultCode} (strobe : Byte) (h : s.Keeps release (owner s).1) :
    s.Keeps release (s.command strobe owner) := by
  unfold State.command
  split
  · exact h.setResult _ _
  · exact refl _ s

theorem stepWrite (h : s.Keeps release t) (addr : Addr) : s.Keeps release (t.stepWrite addr) := by
  unfold State.stepWrite
  split
  · split
    · exact h.setSp _
    · exact h
  · exact h

theorem writeAt {owner : State → State} (addr : Addr) (h : s.Keeps release (owner s)) :
    s.Keeps release (s.writeAt addr owner) := by
  unfold State.writeAt
  split
  · exact h.stepWrite addr
  · exact refl _ s

theorem writePaged {owner : State → State} (page : Fin 3) (addr : Addr) (h : s.Keeps release (owner s)) :
    s.Keeps release (s.writePaged page addr owner) := by
  unfold State.writePaged
  split
  · split
    · exact h.stepWrite addr
    · exact h
  · exact refl _ s

end State.Keeps

namespace State

variable {release : Prop} (s : State)

/-! ## Timebase -/

theorem tbStart_keeps : s.Keeps release s.tbStart.1 := by
  unfold tbStart
  split
  · exact (Keeps.refl release s).setTbState (.inl rfl)
  · exact .refl _ s
  · exact .refl _ s

theorem tbStop_keeps : s.Keeps release s.tbStop.1 := by
  have hs := Keeps.refl release s
  unfold tbStop
  split
  · exact hs
  · exact hs.setTbState (.inr rfl)
  · exact (hs.takeWrap.offerStep _ _ _).setTbState (.inr rfl)
  · exact hs.setTbState (.inr rfl)
  · exact hs

theorem cancelSlew_keeps : s.Keeps release s.cancelSlew := by
  have hs := Keeps.refl release s
  unfold cancelSlew
  split
  · exact (hs.offerStep _ _ _).setTbState (.inl rfl)
  · exact hs.offerSlewEnd.setTbState (.inl rfl)
  · exact hs

theorem tbLoad_keeps (order : NoticeOrder) : s.Keeps release (s.tbLoad order).1 := by
  unfold tbLoad
  split
  · exact .refl _ s
  · exact ((s.cancelSlew_keeps.stepTime _ _ _ _).giveNotice _).orderNotice order

theorem tbJump_keeps (order : NoticeOrder) : s.Keeps release (s.tbJump order).1 := by
  have hs := Keeps.refl release s
  unfold tbJump
  split
  · exact hs
  · exact hs
  · exact hs
  · dsimp only
    split
    · exact hs
    · exact ((hs.stepTime _ _ _ _).giveNotice _).orderNotice order

/-- A new slew stands at its starting amount, with the rate of the register (R30, R31). -/
theorem tbSlew_keeps : s.Keeps release s.tbSlew.1 := by
  unfold tbSlew
  split
  · exact .refl _ s
  · split
    next => exact .refl _ s
    next hamount =>
      refine (Keeps.refl release s).setTb _ (fun ⟨_, hlo, hhi, hp⟩ => ⟨⟨?_, ?_, hlo, hhi⟩, hlo, hhi, hp⟩) nofun
      all_goals
        simp only [Config.amountBound, not_or, not_lt] at hamount
        simp only [StagedTime.amount]
        split <;> omega
  · exact .refl _ s

theorem startEdgeLoad_keeps (frozen : Bool) (arg : Byte) : s.Keeps release (s.startEdgeLoad frozen arg).1 := by
  unfold startEdgeLoad
  split
  next => exact .refl _ s
  next n _ =>
    split_ifs with hen hbound
    · exact .refl _ s
    · exact .refl _ s
    · refine (Keeps.refl release s).setTb _ (fun ⟨_, hok⟩ => ⟨?_, hok⟩) ?_
      · simp only [Config.edgeLoadBound, not_lt] at hbound
        simp only [TbState.Ok]
        omega
      · rintro _ ⟨⟩
        exact .inr (by simpa using hen)

theorem tbLoadEdge_keeps (arg : Byte) : s.Keeps release (s.tbLoadEdge arg).1 := by
  unfold tbLoadEdge
  split
  · exact s.startEdgeLoad_keeps true arg
  · exact s.startEdgeLoad_keeps false arg
  · exact .refl _ s

theorem tbCancelEdge_keeps : s.Keeps release s.tbCancelEdge.1 := by
  unfold tbCancelEdge
  split
  next w _ => exact (Keeps.refl release s).setTbState w.cancelled_cases
  next => exact .refl _ s

theorem countingCycleIf_keeps (p : Timebase → Bool) (c : CountingOperands) :
    s.Keeps release (s.countingCycleIf p c) := by
  unfold countingCycleIf
  dsimp only
  split
  · exact (Keeps.refl release s).endCycle.beginCounting _ _ s.endCycle_position_lt
  · exact .refl _ s

/-! ## Registers -/

theorem qPop_keeps : s.Keeps release s.qPop.1 := by
  have hs := (Keeps.refl release s).drainReady
  unfold qPop
  dsimp only
  split
  · exact hs
  · refine hs.setTrq _ fun ⟨hlen, hthreshold⟩ => ⟨?_, hthreshold⟩
    simp only [RecordQueue.pop, List.length_tail]
    omega

theorem qFlush_keeps : s.Keeps release s.qFlush.1 :=
  (Keeps.refl release s).drainReady.setTrq _ fun ⟨_, hthreshold⟩ => ⟨Nat.zero_le _, hthreshold⟩

theorem writeQueueConfig_keeps (data : Byte) : s.Keeps release (s.writeQueueConfig data) :=
  (Keeps.refl release s).drainReady.setTrq _ fun hq => hq.configure data

theorem clearPending_keeps (data : Byte) : s.Keeps release (s.clearPending data) :=
  (Keeps.refl release s).drainReady.setIcu _

theorem writeTrim_keeps (reg : TrimByte) (data : Byte) : s.Keeps release (s.writeTrim reg data) :=
  (Keeps.refl release s).retime _ (by rfl)

theorem writeRate_keeps (data : Byte) : s.Keeps release (s.writeRate data) :=
  (Keeps.refl release s).setTb _
    (fun ⟨hst, _, _, hp⟩ => ⟨hst, (storedRate_range data).1, (storedRate_range data).2, hp⟩) fun _ => .inl

theorem writePage_keeps (data : Byte) : s.Keeps release (s.writePage data) := by
  unfold writePage
  split
  · exact (Keeps.refl release s).setSp _
  · exact .refl _ s

theorem writeStaging_keeps (i : Nat) (data : Byte) : s.Keeps release (s.writeStaging i data) :=
  ((Keeps.refl release s).setSched { s.sched with staging := s.sched.staging.write i data } id).retime _ (by rfl)

/-! ## Capture lines -/

/-- A write that disables the awaited line cancels the edge-aligned load, so that an awaited line stays enabled (R41). -/
theorem writeCapControl_keeps (n : Fin 6) (on : Bool) (d q : BitVec 3) :
    s.Keeps release (s.writeCapControl n on d q) := by
  have hok : ∀ m, (s.cap.get m).Ok → ((s.cap.modify n (CapLine.writeControl on d q)).get m).Ok := fun m hm => by
    rw [Bank.get_modify]
    split
    · exact hm.writeControl on d q
    · exact hm
  unfold writeCapControl cancelIfDisabled
  split
  next w hw =>
    have hw' : s.tb.state = .awaitEdge w := hw
    split
    next hen =>
      refine (Keeps.refl release s).setCap _ hok fun m hm _ => ?_
      simp only [Timebase.awaited, hw', Option.mem_def, Option.some.injEq] at hm
      exact hm ▸ hen
    next =>
      have htb := (Keeps.refl release s).setTbState w.cancelled_cases
      refine (htb.setCap _ hok fun m hm => ?_).raise _
      rcases w.cancelled_cases with hst | hst <;> simp [Timebase.awaited, State.setTbState, hst] at hm
  next hw =>
    refine (Keeps.refl release s).setCap _ hok fun m hm => ?_
    unfold Timebase.awaited at hm
    split at hm
    next w hst => exact absurd hst (hw w)
    next => cases hm

theorem writeCapConfig_keeps (n : Fin 6) (reg : CapByte) (data : Byte) :
    s.Keeps release (s.writeCapConfig n reg data) :=
  (Keeps.refl release s).modifyCap n _ (fun hl => hl.writeConfig reg data) (CapLine.writeConfig_enabled reg data)

/-! ## Schedule table -/

theorem compose_keeps (arg : Byte) {put : Plan → Entry} (hput : ∀ n p, Plan.Ok n p → (put p).Ok n) :
    s.Keeps release (s.compose arg put).1 := by
  unfold compose
  split
  next => exact .refl _ s
  next n _ =>
    split
    next => exact .refl _ s
    next =>
      split
      next => exact .refl _ s
      next p hp => exact ((Keeps.refl release s).setEntry _ _ fun _ => hput n p (Staging.plan_ok hp)).noteArming n

theorem schArm_keeps (arg : Byte) : s.Keeps release (s.schArm arg).1 :=
  s.compose_keeps arg fun _ _ hp => (Entry.armed_start_ok hp _).treat _

theorem schPark_keeps (arg : Byte) : s.Keeps release (s.schPark arg).1 :=
  s.compose_keeps arg fun _ _ hp => ⟨hp, rfl⟩

theorem spendDecision_keeps (b : Bool) : s.Keeps release (s.spendDecision b) := by
  unfold spendDecision
  split
  · exact (Keeps.refl release s).bookkeep _ (by rfl)
  · exact .refl _ s

theorem schCancel_keeps (arg : Byte) : s.Keeps release (s.schCancel arg).1 := by
  unfold schCancel
  split
  next => exact .refl _ s
  next n _ =>
    split
    next => exact .refl _ s
    next =>
      refine (s.spendDecision_keeps _).setEntry _ _ fun hok => ?_
      rw [State.entry, (s.spendDecision_frame _).2.2.1] at hok
      exact Entry.Ok.finish hok _

theorem schCancelAll_keeps : s.Keeps release s.schCancelAll.1 :=
  (s.spendDecision_keeps _).mapEntries fun _ _ he => he.finish _

theorem schFree_keeps (arg : Byte) : s.Keeps release (s.schFree arg).1 := by
  unfold schFree
  split
  · exact .refl _ s
  · split
    · exact (Keeps.refl release s).setEntry _ _ fun _ => trivial
    · exact .refl _ s

theorem schView_keeps (arg : Byte) : s.Keeps release (s.schView arg).1 := by
  unfold schView
  split
  · exact .refl _ s
  · exact (Keeps.refl release s).setSched _ fun ht => ht

theorem Keeps.sweepIfFree {s t : State} (h : s.Keeps release t) : s.Keeps release t.sweepIfFree := by
  unfold State.sweepIfFree State.sweepFree
  split
  · split
    · exact h.takeCapture _
    · split
      · exact h.takeNotices
      · exact h.sweep _
  · exact h

theorem schHold_keeps : s.Keeps release s.schHold.1 :=
  (Keeps.refl release s).setDisp _ (by rfl)

theorem schResume_keeps : s.Keeps release s.schResume.1 := by
  unfold schResume
  split
  · exact Keeps.sweepIfFree ((Keeps.refl release s).setDisp _ (by rfl))
  · exact .refl _ s

/-! ## Output lines and guard unit -/

theorem force_keeps (v : Level) (arg : Byte) : s.Keeps release (State.force v arg s).1 := by
  unfold State.force
  split
  next => exact .refl _ s
  next n _ =>
    split
    next => exact .refl _ s
    next ht =>
      exact (Keeps.refl release s).modifyOut n (fun _ _ => OutLine.ok_of_pulse_eq_none rfl) fun htr => absurd htr ht

theorem writeMode_keeps (n : Fin 8) (m : Mode) : s.Keeps release (s.writeMode n m) :=
  (Keeps.refl release s).modifyOut n (fun _ hl => hl) fun _ _ _ hl => hl

theorem writeIdle_keeps (n : Fin 8) (v : Level) : s.Keeps release (s.writeIdle n v) :=
  (Keeps.refl release s).modifyOut n (fun _ hl => hl) fun _ _ _ hl => hl

theorem writeOutConfig_keeps (half : Fin 2) (data : Byte) : s.Keeps release (s.writeOutConfig half data) := by
  refine (Keeps.refl release s).setOuts _ (fun n hn => ?_) fun _ n hn => ?_ <;> rw [Bank.get_ofFn] <;> split <;> exact hn

theorem writeGuardLine_keeps (n : Fin 2) (on : Bool) (active : Level) (q : BitVec 4) :
    s.Keeps release (s.writeGuardLine n on active q) :=
  (Keeps.refl release s).setGuardLine n fun hl => hl.write on active q

theorem writeSafeLevels_keeps (half : Fin 2) (data : Byte) : s.Keeps release (s.writeSafeLevels half data) := by
  unfold writeSafeLevels
  split
  next => exact .refl _ s
  next ht => exact (Keeps.refl release s).setGuard _ rfl (fun _ hl => hl) fun htr => absurd htr ht

/-- The one command that may untrip the unit (R155). -/
theorem grdRelease_keeps (hr : release) : s.Keeps release s.grdRelease.1 := by
  unfold grdRelease
  split
  · exact .refl _ s
  · split
    · exact .refl _ s
    · exact Keeps.sweepIfFree ((Keeps.refl release s).untrip hr)

/-! ## Resets -/

theorem softReset_keeps (order : ResetOrder) : s.Keeps release (s.softReset order).1 := by
  have hfirst : s.Keeps release (s.offersBeforeReset order) := by
    cases order with
    | offersFirst => exact (Keeps.refl release s).drainReady
    | resetFirst => exact .refl _ s
  have hb := hfirst.deliverAction
  unfold softReset
  dsimp only
  generalize (s.offersBeforeReset order).deliverAction = b at *
  have hsched := hb.setSched ({ b.sched with entries := .fill 32 .free, view := { index := 0, entry := .free } })
    fun _ n => by rw [Bank.get_fill]; trivial
  have hdisp := hsched.setDisp ({ b.disp with holdHost := false, fault := .none }) rfl
  have houts := hdisp.setOuts (b.outs.map (OutLine.softReset b.guard.tripped))
    (fun n _ => by rw [Bank.get_map]; exact OutLine.ok_of_pulse_eq_none rfl)
    (fun ht n hn => by
      have htr : b.guard.tripped = true := ht
      rw [Bank.get_map, htr]
      exact ⟨rfl, hn.2⟩)
  exact (houts.setTrq (b.trq.flush) fun ⟨_, hthreshold⟩ => ⟨Nat.zero_le _, hthreshold⟩).setIcu _

theorem pinReset_keeps : s.Keeps release s.pinReset := by
  have hb := (Keeps.refl release s).drainReady.deliverAction
  unfold pinReset
  dsimp only
  generalize s.drainReady.deliverAction = b at *
  have htb : s.Keeps release (b.setTb b.tb.pinReset) := by
    unfold Timebase.pinReset
    split
    next w _ => exact hb.restate _ w.cancelled_cases (by rfl)
    next => exact hb
  have hcap := htb.setCap (.fill 6 .reset) (fun n _ => by rw [Bank.get_fill]; exact CapLine.reset_ok)
    (fun n hn => by simp [Timebase.awaited_pinReset] at hn)
  have hdisp := (hcap.setSched .reset fun _ => Schedule.reset_ok).setDisp
    ({ b.disp with holdHost := false, fault := .none }) rfl
  have houts := hdisp.setOuts
    (.ofFn fun n => (b.outs.get n).pinReset b.guard.tripped (b.guard.safe.get n))
    (fun n _ => by rw [Bank.get_ofFn]; exact OutLine.ok_of_pulse_eq_none rfl)
    (fun ht n _ => by
      have htr : b.guard.tripped = true := ht
      rw [Bank.get_ofFn, htr]
      exact ⟨rfl, (SafeLevel.apply_apply _ _).symm⟩)
  exact (((houts.setTrq _ fun _ => RecordQueue.reset_ok).setIcu _).setSp _).setResetLow _

theorem pinResetRelease_keeps : s.Keeps release s.pinResetRelease := by
  have hb : s.Keeps release s.drainInReset := by
    unfold drainInReset
    split
    · exact .refl _ s
    · exact (Keeps.refl release s).takeGuard.drainAll
  exact Keeps.retime (((hb.setResetLow false).raiseIf _ _).raiseIf _ _) _ (by rfl)

/-! ## The serial port -/

theorem writePage1_keeps (a : Nat) (data : Byte) : s.Keeps release (s.writePage1 a data) := by
  unfold writePage1
  split
  · dsimp only
    split
    · exact s.writeCapControl_keeps _ _ _ _
    all_goals exact s.writeCapConfig_keeps _ _ _
  · exact .refl _ s

theorem writePage2_keeps (a : Nat) (data : Byte) : s.Keeps release (s.writePage2 a data) := by
  unfold writePage2
  split
  · exact s.writeOutConfig_keeps _ _
  · exact s.writeOutConfig_keeps _ _
  · exact s.writeGuardLine_keeps _ _ _ _
  · exact s.writeGuardLine_keeps _ _ _ _
  · exact s.writeSafeLevels_keeps _ _
  · exact s.writeSafeLevels_keeps _ _
  · exact s.writeTrim_keeps _ _
  · exact s.writeTrim_keeps _ _
  · exact s.writeTrim_keeps _ _
  · exact s.writeRate_keeps _
  · exact s.writeQueueConfig_keeps _
  · exact .refl _ s

theorem strobe_keeps (a : Nat) (arg : Byte) (hr : a = 0x7B → release) : s.Keeps release (s.strobe a arg) := by
  unfold State.strobe
  split
  · exact .command _ s.tbStart_keeps
  · exact .command _ s.tbStop_keeps
  · exact .command _ (s.tbLoad_keeps _)
  · exact .command _ (s.tbJump_keeps _)
  · exact .command _ s.tbSlew_keeps
  · exact .command _ (s.tbLoadEdge_keeps _)
  · exact .command _ s.tbCancelEdge_keeps
  · exact .command _ (s.schArm_keeps _)
  · exact .command _ (s.schPark_keeps _)
  · exact .command _ (s.schCancel_keeps _)
  · exact .command _ s.schCancelAll_keeps
  · exact .command _ (s.schFree_keeps _)
  · exact .command _ (s.schView_keeps _)
  · exact .command _ s.schHold_keeps
  · exact .command _ s.schResume_keeps
  · exact .command _ (s.force_keeps _ _)
  · exact .command _ (s.force_keeps _ _)
  · exact .command _ s.qPop_keeps
  · exact .command _ s.qFlush_keeps
  · exact .command _ (s.grdRelease_keeps (hr rfl))
  · exact .command _ (s.softReset_keeps _)

theorem writeByte_keeps (addr : Addr) (data : Byte) (hr : addr = 0x7B → release) :
    s.Keeps release (s.writeByte addr data) := by
  refine .writeAt addr ?_
  unfold deliverByte
  dsimp only
  split_ifs
  · exact .refl _ s
  · split
    · exact .refl _ s
    · exact s.writePage1_keeps _ _
    · exact s.writePage2_keeps _ _
  · exact .refl _ s
  · exact s.writeStaging_keeps _ _
  · exact s.strobe_keeps _ _ fun ha => hr (BitVec.eq_of_toNat_eq ha)
  · exact s.writePage_keeps _
  · exact s.clearPending_keeps _
  · exact (Keeps.refl release s).setIcu _

theorem readByte_keeps : s.Keeps release s.readByte := by
  unfold readByte
  split
  · exact .refl _ s
  · dsimp only
    split
    · exact (Keeps.refl release s).fetch.setSp _
    · exact (Keeps.refl release s).fetch

theorem openTransaction_keeps (b : Byte) : s.Keeps release (s.openTransaction b) := by
  unfold openTransaction startRead
  split_ifs
  · exact ((Keeps.refl release s).setSp _).setSp _
  · exact (Keeps.refl release s).drainReady.setSp _
  · exact (Keeps.refl release s).setSp _
  · exact (Keeps.refl release s).setSp _

theorem addressByte_keeps (b : Byte) (hr : s.sp.tx = .writing 0x7B → release) : s.Keeps release (s.addressByte b) := by
  unfold addressByte
  split
  · exact (Keeps.refl release s).setSp _
  · split
    next => exact s.openTransaction_keeps b
    next => exact s.openTransaction_keeps b
    next pointer hw => exact s.writeByte_keeps _ _ fun hp => hr (hp ▸ hw)
    next => exact s.readByte_keeps
    next => exact .refl _ s

theorem endTransaction_keeps : s.Keeps release s.endTransaction := by
  have hpop : ∀ (t : State) copy last, t.Keeps release (t.autoPop copy last) := fun t copy last => by
    unfold autoPop
    split
    · split
      · refine (Keeps.refl _ t).setTrq _ fun ⟨hlen, hthreshold⟩ => ⟨?_, hthreshold⟩
        simp only [RecordQueue.pop, List.length_tail]
        omega
      · exact .refl _ t
    · exact .refl _ t
  unfold endTransaction
  refine Keeps.setSp ?_ _
  split
  · exact (Keeps.refl release s).drainReady.trans (hpop _ _ _)
  · exact .refl _ s

end State

/-! ## Every row -/

/-- The commands that may untrip the guard unit (R155, section 8.9; log entry 17). -/
def Instr.Untrips (c : Instr) (s : State) : Prop :=
  (∃ arg, c = .grdRelease arg) ∨ (∃ arg, c = .registerWrite 0x7B arg) ∨ c = .powerOnReset ∨
    s.sp.tx = .writing 0x7B ∧ ((∃ b, c = .addressByte b) ∨ (∃ o, c = .timeSnapshot o) ∨ ∃ o, c = .headLatch o)

theorem exec_keeps {c : Instr} {s t : State} (h : exec c s = .next t) : s.Keeps (Instr.Untrips c s) t := by
  have hs := State.Keeps.refl (Instr.Untrips c s) s
  cases c <;> obtain rfl := Host.Outcome.next.inj h
  case countingCycle c => exact s.countingCycleIf_keeps _ c
  case frozenCycle pins =>
    split
    · exact hs
    · exact hs.endCycle.tick pins true
  case trimWindowEnd => exact hs.endWindow
  case slewModification c => exact s.countingCycleIf_keeps _ c
  case deferredSlewModification c => exact s.countingCycleIf_keeps _ c
  case wrap => exact hs.takeWrap
  case tbStart => exact .command _ s.tbStart_keeps
  case tbStop => exact .command _ s.tbStop_keeps
  case tbLoad => exact .command _ (s.tbLoad_keeps _)
  case tbJump => exact .command _ (s.tbJump_keeps _)
  case tbSlew => exact .command _ s.tbSlew_keeps
  case tbLoadEdge => exact .command _ (s.tbLoadEdge_keeps _)
  case tbCancelEdge => exact .command _ s.tbCancelEdge_keeps
  case captureSample n => exact hs.takeCapture n
  case guardSample => exact hs.takeGuard
  case dispatch order => exact hs.takeDispatch order
  case pulseEnd n => exact hs.endPulse n
  case schArm => exact .command _ (s.schArm_keeps _)
  case schPark => exact .command _ (s.schPark_keeps _)
  case schCancel => exact .command _ (s.schCancel_keeps _)
  case schCancelAll => exact .command _ s.schCancelAll_keeps
  case schFree => exact .command _ (s.schFree_keeps _)
  case schView => exact .command _ (s.schView_keeps _)
  case schHold => exact .command _ s.schHold_keeps
  case schResume => exact .command _ s.schResume_keeps
  case outSet => exact .command _ (s.force_keeps _ _)
  case outClear => exact .command _ (s.force_keeps _ _)
  case qPop => exact .command _ s.qPop_keeps
  case qFlush => exact .command _ s.qFlush_keeps
  case grdRelease arg => exact .command _ (s.grdRelease_keeps (.inl ⟨arg, rfl⟩))
  case softReset => exact .command _ (s.softReset_keeps _)
  case captureEnable => exact .writePaged _ _ (s.writeCapControl_keeps _ _ _ _)
  case captureDisable => exact .writePaged _ _ (s.writeCapControl_keeps _ _ _ _)
  case samplingRestart => exact .writePaged _ _ (s.writeCapControl_keeps _ _ _ _)
  case captureConfigWrite => exact .writePaged _ _ (s.writeCapConfig_keeps _ _ _)
  case guardEnable => exact .writePaged _ _ (s.writeGuardLine_keeps _ _ _ _)
  case guardDisable => exact .writePaged _ _ (s.writeGuardLine_keeps _ _ _ _)
  case guardReconfig => exact .writePaged _ _ (s.writeGuardLine_keeps _ _ _ _)
  case trimWrite => exact .writePaged _ _ (s.writeTrim_keeps _ _)
  case slewRateWrite => exact .writePaged _ _ (s.writeRate_keeps _)
  case safeLevelWrite => exact .writePaged _ _ (s.writeSafeLevels_keeps _ _)
  case modeWrite => exact .writePaged _ _ (s.writeMode_keeps _ _)
  case idleLevelWrite => exact .writePaged _ _ (s.writeIdle_keeps _ _)
  case queueConfigWrite => exact .writePaged _ _ (s.writeQueueConfig_keeps _)
  case pendingClear => exact .writeAt _ (s.clearPending_keeps _)
  case enableWrite => exact .writeAt _ (hs.setIcu _)
  case pageSelectWrite => exact .writeAt _ (s.writePage_keeps _)
  case registerWrite addr data =>
    exact s.writeByte_keeps addr data fun ha => .inr (.inl ⟨data, by rw [ha]⟩)
  case timeSnapshot o => exact s.addressByte_keeps _ fun hw => .inr (.inr (.inr ⟨hw, .inr (.inl ⟨o, rfl⟩)⟩))
  case headLatch o => exact s.addressByte_keeps _ fun hw => .inr (.inr (.inr ⟨hw, .inr (.inr ⟨o, rfl⟩)⟩))
  case transactionEnd => exact s.endTransaction_keeps
  case powerOnReset => exact .powerOn (.inr (.inr (.inl rfl))) s
  case pinReset =>
    split
    · exact hs
    · exact s.pinReset_keeps
  case pinResetRelease =>
    split
    · exact s.pinResetRelease_keeps
    · exact hs
  case addressByte b => exact s.addressByte_keeps b fun hw => .inr (.inr (.inr ⟨hw, .inl ⟨b, rfl⟩⟩))
  case readDataByte => exact s.readByte_keeps

/-- A step keeps what the command at the front of the queue keeps; the queue itself is in no invariant. -/
theorem step_keeps {s t : State} (h : step s = .next t) : ∃ rest, (s.setPending rest).Keeps True t := by
  unfold step at h
  split at h
  next => obtain rfl := Host.Outcome.next.inj h; exact ⟨s.pending, .refl _ _⟩
  next c rest _ =>
    have hk := exec_keeps h
    exact ⟨rest, { hk with tripped := fun _ => .inr trivial }⟩

/-- Settles O54: a step keeps the guard unit's invariant. -/
theorem stepKeepsTheGuardProtection : Obligations.StepKeepsTheGuardProtection := by
  intro s t hs h
  obtain ⟨rest, hk⟩ := step_keeps h
  exact hk.guard hs

/-- Settles O56: a step keeps the timebase in range. -/
theorem stepKeepsTheTimebaseInRange : Obligations.StepKeepsTheTimebaseInRange := by
  intro s t hs h
  obtain ⟨rest, hk⟩ := step_keeps h
  exact hk.timebase hs

/-- Settles O57: a step keeps the capture lines. -/
theorem stepKeepsTheCaptureLines : Obligations.StepKeepsTheCaptureLines := by
  intro s t hs h
  obtain ⟨rest, hk⟩ := step_keeps h
  exact hk.capture hs

/-- Settles O58: a step keeps every entry. -/
theorem stepKeepsTheScheduleTable : Obligations.StepKeepsTheScheduleTable := by
  intro s t hs h
  obtain ⟨rest, hk⟩ := step_keeps h
  exact hk.table hs

/-- Settles O59: a step keeps the queue, the port's order and the pulses. -/
theorem stepKeepsQueueAndPulses : Obligations.StepKeepsQueueAndPulses := by
  intro s t ⟨hqueue, hoffers, hpulses⟩ h
  obtain ⟨rest, hk⟩ := step_keeps h
  exact ⟨hk.queue hqueue, hk.offers hoffers, hk.pulses hpulses⟩

/-- Settles O2: the waiting commands are no part of what a command changes. -/
theorem noCommandTouchesTheWaitingCommands : Obligations.NoCommandTouchesTheWaitingCommands :=
  fun _ _ _ h => (exec_keeps h).pending

/-- Settles O55: a unit that is not tripped after a command was untripped by one of those in `Instr.Untrips`. -/
theorem onlyReleaseUntripsTheUnit : Obligations.OnlyReleaseUntripsTheUnit := by
  intro c s t h hs ht
  rcases (exec_keeps h).tripped hs with htr | hu
  · rw [ht] at htr
    cases htr
  · exact hu

end Sys2Proof.Machine
end

section
/-! The due queue (R84) and the arithmetic of a PERIODIC entry (R92, R98). -/
namespace Sys2Proof.Machine

/-! ## The head of the due queue -/

/-- The due time of an ARMED entry. -/
def Entry.armedDue : Entry → Option Ticks
  | .armed p _ _ => some p.due
  | _ => none

theorem Entry.armedDue_eq_none_iff {e : Entry} : e.armedDue = none ↔ ∀ p k late, e ≠ .armed p k late := by
  cases e <;> simp [Entry.armedDue]

theorem Entry.armedDue_eq_some_iff {e : Entry} {d : Ticks} :
    e.armedDue = some d ↔ ∃ p k late, e = .armed p k late ∧ p.due = d := by
  cases e <;> simp [Entry.armedDue]

/-- `i` with due time `d` is the head among the entries of `js` (R84). -/
def IsHeadAmong (es : Bank Entry 32) (js : List (Fin 32)) (i : Fin 32) (d : Ticks) : Prop :=
  i ∈ js ∧ (es.get i).armedDue = some d ∧
    ∀ j ∈ js, ∀ d', (es.get j).armedDue = some d' → d.toNat < d'.toNat ∨ d = d' ∧ i ≤ j

/-- One more entry, of a higher index than those before it, replaces the head where it is due earlier (R84). -/
theorem betterHead_eq (es : Bank Entry 32) (best : Option (Fin 32 × Ticks)) (j : Fin 32) :
    betterHead es best j = match (es.get j).armedDue, best with
      | none, _ => best
      | some d, none => some (j, d)
      | some d, some b => if d.toNat < b.2.toNat then some (j, d) else some b := by
  unfold betterHead Entry.armedDue
  cases es.get j <;> cases best <;> rfl

theorem foldl_betterHead (es : Bank Entry 32) (js : List (Fin 32)) (hjs : js.Pairwise (· < ·)) :
    (js.foldl (betterHead es) none = none ∧ ∀ j ∈ js, (es.get j).armedDue = none) ∨
    ∃ i d, js.foldl (betterHead es) none = some (i, d) ∧ IsHeadAmong es js i d := by
  induction js using List.reverseRecOn with
  | nil => simp
  | append_singleton js j ih =>
    obtain ⟨hsorted, -, hlt⟩ := List.pairwise_append.1 hjs
    rw [List.foldl_append, List.foldl_cons, List.foldl_nil, betterHead_eq]
    rcases ih hsorted with ⟨hnone, hall⟩ | ⟨i, d, hsome, hi, hd, hbest⟩
    · cases hj : (es.get j).armedDue with
      | none => exact .inl ⟨hnone, by simpa [or_imp, forall_and, hj] using hall⟩
      | some d =>
        refine .inr ⟨j, d, by rw [hnone], by simp, hj, fun m hm d' hd' => ?_⟩
        rcases List.mem_append.1 hm with hm | hm
        · rw [hall m hm] at hd'
          cases hd'
        · obtain rfl := List.mem_singleton.1 hm
          rw [hj] at hd'
          exact .inr ⟨Option.some.inj hd', le_rfl⟩
    · have hij : i < j := hlt i hi j (List.mem_singleton.2 rfl)
      cases hj : (es.get j).armedDue with
      | none =>
        refine .inr ⟨i, d, hsome, List.mem_append_left _ hi, hd, fun m hm d' hd' => ?_⟩
        rcases List.mem_append.1 hm with hm | hm
        · exact hbest m hm d' hd'
        · rw [List.mem_singleton.1 hm, hj] at hd'
          cases hd'
      | some e =>
        rw [hsome]
        dsimp only
        split
        next hed =>
          refine .inr ⟨j, e, rfl, by simp, hj, fun m hm d' hd' => ?_⟩
          rcases List.mem_append.1 hm with hm | hm
          · rcases hbest m hm d' hd' with h | ⟨rfl, -⟩
            · exact .inl (hed.trans h)
            · exact .inl hed
          · obtain rfl := List.mem_singleton.1 hm
            rw [hj] at hd'
            exact .inr ⟨Option.some.inj hd', le_rfl⟩
        next hed =>
          refine .inr ⟨i, d, rfl, List.mem_append_left _ hi, hd, fun m hm d' hd' => ?_⟩
          rcases List.mem_append.1 hm with hm | hm
          · exact hbest m hm d' hd'
          · obtain rfl := List.mem_singleton.1 hm
            rw [hj] at hd'
            obtain rfl := Option.some.inj hd'
            exact (lt_or_eq_of_le (not_lt.1 hed)).imp_right fun h => ⟨BitVec.eq_of_toNat_eq h, hij.le⟩

theorem dueHead_cases (es : Bank Entry 32) :
    (dueHead es = none ∧ ∀ j, (es.get j).armedDue = none) ∨
    ∃ i d, dueHead es = some i ∧ IsHeadAmong es (List.finRange 32) i d := by
  rcases foldl_betterHead es (List.finRange 32) (List.pairwise_lt_finRange 32) with ⟨hnone, hall⟩ | ⟨i, d, hsome, hi⟩
  · exact .inl ⟨by rw [dueHead, hnone]; rfl, fun j => hall j (List.mem_finRange j)⟩
  · exact .inr ⟨i, d, by rw [dueHead, hsome]; rfl, hi⟩

/-- There is one head: of two entries that are both the head, each is due no later and stands no higher than the other. -/
theorem IsHeadAmong.unique {es : Bank Entry 32} {js : List (Fin 32)} {i j : Fin 32} {d e : Ticks}
    (hi : IsHeadAmong es js i d) (hj : IsHeadAmong es js j e) : i = j := by
  obtain ⟨him, hid, hibest⟩ := hi
  obtain ⟨hjm, hje, hjbest⟩ := hj
  rcases hibest j hjm e hje with h1 | ⟨h1, h1'⟩ <;> rcases hjbest i him d hid with h2 | ⟨h2, h2'⟩
  · exact absurd h2 h1.not_gt
  · exact absurd h1 (h2 ▸ lt_irrefl _)
  · exact absurd h2 (h1 ▸ lt_irrefl _)
  · exact le_antisymm h1' h2'

theorem dueHead_eq_some_iff {es : Bank Entry 32} {i : Fin 32} :
    dueHead es = some i ↔ ∃ d, IsHeadAmong es (List.finRange 32) i d := by
  rcases dueHead_cases es with ⟨hnone, hall⟩ | ⟨j, e, hsome, hj⟩
  · rw [hnone]
    refine ⟨nofun, fun ⟨d, _, hd, _⟩ => ?_⟩
    rw [hall i] at hd
    cases hd
  · rw [hsome, Option.some.injEq]
    exact ⟨fun h => ⟨e, h ▸ hj⟩, fun ⟨d, hi⟩ => hj.unique hi⟩

theorem dueHead_eq_none_iff {es : Bank Entry 32} : dueHead es = none ↔ ∀ i, (es.get i).armedDue = none := by
  rcases dueHead_cases es with ⟨hnone, hall⟩ | ⟨j, e, hsome, -, hd, -⟩
  · exact ⟨fun _ => hall, fun _ => hnone⟩
  · rw [hsome]
    refine ⟨nofun, fun h => ?_⟩
    rw [h j] at hd
    cases hd

/-- Settles O30: the fold over the table keeps the head among the entries seen so far, and a head is unique. -/
theorem dueQueueHeadIsEarliestThenLowest : Obligations.DueQueueHeadIsEarliestThenLowest := by
  intro es
  simp only [dueHead_eq_none_iff, Entry.armedDue_eq_none_iff, dueHead_eq_some_iff, IsHeadAmong, Entry.armedDue_eq_some_iff]
  refine ⟨?_, fun i => ⟨?_, ?_⟩⟩
  · trivial
  · rintro ⟨d, -, ⟨p, k, late, hi, rfl⟩, hbest⟩
    exact ⟨p, k, late, hi, fun j p' k' late' hj => hbest j (List.mem_finRange j) p'.due ⟨p', k', late', hj, rfl⟩⟩
  · rintro ⟨p, k, late, hi, hbest⟩
    refine ⟨p.due, List.mem_finRange i, ⟨p, k, late, hi, rfl⟩, ?_⟩
    rintro j - _ ⟨p', k', late', hj, rfl⟩
    exact hbest j p' k' late' hj

/-! ## Occurrences of a PERIODIC entry -/

/-- The number of steps that passes t is the one K for which the rule asks (R92, R98). -/
theorem stepsPast_eq {t d p K : Nat} (hp : 0 < p) (hd : d ≤ t) (hK : 1 ≤ K) (hpast : t < d + K * p)
    (hleast : ∀ j, 1 ≤ j → j < K → d + j * p ≤ t) : stepsPast t d p = K := by
  obtain ⟨hpast', hleast'⟩ := stepsPast_spec t d p hp hd
  rcases Nat.lt_trichotomy (stepsPast t d p) K with h | h | h
  · have := hleast (stepsPast t d p) (Nat.le_add_left 1 _) h
    omega
  · exact h
  · have := hleast' K hK h
    omega

section
variable {t : Ticks} {p : Plan} {k : Kept} {period : Span} {K : Nat}

theorem refire_unlimited (hn : stepsPast t.toNat p.due.toNat period.toNat = K) (hr : k.remaining = none) :
    refire t p k period =
      if p.due.toNat + K * period.toNat < 2 ^ 56 then
        .armed (p.at (p.due.toNat + K * period.toNat)) { k with skips := satAdd k.skips (K - 1) } false
      else .done .completed (p.at (p.due.toNat + (K - 1) * period.toNat)) { k with skips := satAdd k.skips (K - 1) } := by
  simp only [refire, hn, hr]
  rfl

theorem refire_limited {r : Count} (hn : stepsPast t.toNat p.due.toNat period.toNat = K) (hK : 1 ≤ K)
    (hr : k.remaining = some r) (h1 : 1 ≤ r.toNat) :
    refire t p k period =
      let charged := min (K - 1) (r.toNat - 1)
      let k' : Kept :=
        { k with skips := satAdd k.skips charged, remaining := some (BitVec.ofNat 16 (r.toNat - 1 - charged)) }
      if K < r.toNat ∧ p.due.toNat + K * period.toNat < 2 ^ 56 then
        .armed (p.at (p.due.toNat + K * period.toNat)) k' false
      else .done .completed (p.at (p.due.toNat + charged * period.toNat)) k' := by
  have hleft : min (K - 1) (r.toNat - 1) < r.toNat - 1 ↔ K < r.toNat := by omega
  simp only [refire, hn, hr, hleft]
  rfl

/-- Settles O34: with the number of steps known to be K, the two cases are those of the limit. -/
theorem periodicEntryIsSetUpAfterAFire : Obligations.PeriodicEntryIsSetUpAfterAFire := by
  intro t p k period K d at_ hperiod hd hK hpast hleast
  have hn : stepsPast t.toNat p.due.toNat period.toNat = K := stepsPast_eq (by omega) hd hK hpast hleast
  exact ⟨fun hr => refire_unlimited hn hr, fun r hr h1 => refire_limited hn hK hr h1⟩

theorem skipPeriodic_unlimited (hn : stepsPast t.toNat p.due.toNat period.toNat = K) (hr : k.remaining = none) :
    skipPeriodic t p k period =
      if p.due.toNat + K * period.toNat < 2 ^ 56 then
        .armed (p.at (p.due.toNat + K * period.toNat)) { k with skips := satAdd k.skips K } false
      else .done .skipped (p.at (p.due.toNat + (K - 1) * period.toNat)) { k with skips := satAdd k.skips K } := by
  simp only [skipPeriodic, hn, hr]
  rfl

/-- Under a limit the K occurrences are passed over as far as `r` are left (R98). -/
theorem skipPeriodic_limited {r : Count} (hn : stepsPast t.toNat p.due.toNat period.toNat = K) (hr : k.remaining = some r) :
    skipPeriodic t p k period =
      let charged := min K r.toNat
      let k' : Kept :=
        { k with skips := satAdd k.skips charged, remaining := some (BitVec.ofNat 16 (r.toNat - charged)) }
      if K < r.toNat ∧ p.due.toNat + K * period.toNat < 2 ^ 56 then
        .armed (p.at (p.due.toNat + K * period.toNat)) k' false
      else .done .skipped (p.at (p.due.toNat + (charged - 1) * period.toNat)) k' := by
  simp only [skipPeriodic, hn, hr]
  by_cases hlt : K < r.toNat
  · have hleft : r - BitVec.ofNat 16 K = BitVec.ofNat 16 (r.toNat - K) := by bv_omega
    simp only [hlt, if_true, true_and, min_eq_left hlt.le, hleft]
    rfl
  · simp only [hlt, if_false, false_and, min_eq_right (not_lt.1 hlt), Nat.sub_self]
    rfl

end

section
variable {t : Ticks} {p : Plan} {k : Kept}

theorem Entry.treat_early (h : t.toNat < p.due.toNat) : Entry.treat t (.armed p k false) = .armed p k false :=
  if_neg (BitVec.not_le.2 (BitVec.lt_def.2 h))

theorem Entry.treat_due (h : p.due.toNat ≤ t.toNat) :
    Entry.treat t (.armed p k false) = match p.late with
      | .fireLate => .armed p k true
      | .drop => skipOverdue t p k :=
  if_pos (BitVec.le_def.2 h)

theorem skipOverdue_once (h : p.cadence = .once) :
    skipOverdue t p k = .done .skipped p { k with skips := satAdd k.skips 1 } := by
  simp [skipOverdue, h]

theorem skipOverdue_periodic {period : Span} (h : p.cadence.period = some period) :
    skipOverdue t p k = skipPeriodic t p k period := by
  unfold skipOverdue
  split
  next hc => simp [hc, Cadence.period] at h
  next q l hc =>
    simp only [hc, Cadence.period, Option.some.injEq] at h
    rw [h]

end

/-- Settles O35: an entry is overdue or not, its policy marks or drops it, and a dropped one is ONCE or PERIODIC. -/
theorem overdueEntryIsTreatedByItsPolicy : Obligations.OverdueEntryIsTreatedByItsPolicy := by
  intro t p k K period d at_
  refine ⟨Entry.treat_early, rfl, rfl, fun _ => rfl, fun hd hl => ?fireLate, fun hd hl hc => ?once,
    fun hd hl hc hperiod hK hpast hleast => ?periodic⟩
  case fireLate => rw [Entry.treat_due hd, hl]
  case once =>
    rw [Entry.treat_due hd, hl]
    exact skipOverdue_once hc
  case periodic =>
    have hn : stepsPast t.toNat p.due.toNat period.toNat = K := stepsPast_eq (by omega) hd hK hpast hleast
    rw [Entry.treat_due hd, hl]
    dsimp only
    rw [skipOverdue_periodic hc]
    exact ⟨fun hr => skipPeriodic_unlimited hn hr, fun r hr _ => skipPeriodic_limited hn hr⟩

end Sys2Proof.Machine
end

section
/-! Notices (R24, R99 to R102) and the commands that reach the schedule table and the hold set (R68 to R79, R104 to R107,
R155). -/
namespace Sys2Proof.Machine

/-- A strobe whose owner's answer is known. -/
theorem State.command_of_owner {s t : State} {strobe : Byte} {owner : State → State × ResultCode} {code : ResultCode}
    (hs : s.takesBytes = true) (ho : owner s = (t, code)) (ht : t.resetLow = s.resetLow) :
    s.command strobe owner = t.answered strobe code := by
  rw [State.command_eq strobe owner s hs (by rw [ho]; exact ht.trans (s.takesBytes_high hs)), ho]

theorem Bank.map_map {α β γ : Type} {n : Nat} (f : α → β) (g : β → γ) (b : Bank α n) :
    (b.map f).map g = b.map fun x => g (f x) :=
  Bank.ext_get fun i => by simp only [Bank.get_map]

/-! ## One notice -/

/-- An entry after the STALE passage and the clearing of late marks (R99, R101). -/
theorem Entry.unmark_stale (e : Entry) (t : Ticks) :
    e.stale.unmark t = match e with
      | .parked p k => if p.epochBound then .done .stale p k else .parked p k
      | .armed p k late =>
        if p.epochBound then .done .stale p k else .armed p k (late && decide (p.due.toNat ≤ t.toNat))
      | e => e := by
  cases e with
  | free => rfl
  | done f p k => rfl
  | parked p k => cases hb : p.epochBound <;> simp [Entry.stale, Entry.unmark, Entry.finish, hb]
  | armed p k late =>
    cases hb : p.epochBound <;> cases late <;> simp [Entry.stale, Entry.unmark, Entry.finish, hb, BitVec.le_def]

theorem Dispatcher.free_iff (d : Dispatcher) : d.free = true ↔ d.holdHost = false ∧ d.holdGuard = false := by
  simp [Dispatcher.free]

theorem State.takeNotice_eq (s : State) (n : Notice) :
    s.takeNotice n = s.mapEntries fun e =>
      if n.sweep = true ∧ s.disp.holdHost = false ∧ s.disp.holdGuard = false then (e.stale.unmark n.time).treat n.time
      else e.stale.unmark n.time := by
  unfold State.takeNotice
  dsimp only
  by_cases h : n.sweep = true ∧ s.disp.holdHost = false ∧ s.disp.holdGuard = false
  · rw [if_pos (by simpa [Dispatcher.free_iff] using h)]
    simp only [h, and_self, if_true, State.sweep, State.mapEntries, State.setSched_sched, Bank.map_map]
    rfl
  · rw [if_neg (by simpa [Dispatcher.free_iff] using h)]
    simp only [h, if_false]

theorem State.takeNotices_eq (s : State) :
    s.takeNotices = if s.cyc.notices = [] then s else
      s.cyc.notices.foldl State.takeNotice { s.overtake with cyc := { s.overtake.cyc with notices := [] } } := by
  split
  next h => exact s.takeNotices_nil h
  next h =>
    unfold State.takeNotices
    split
    next hn => exact absurd hn h
    next => rfl

/-- Settles O19: the table's reaction to a notice entry by entry; the other clauses are the definitions. -/
theorem noticeActsInOrder : Obligations.NoticeActsInOrder := by
  intro s n react all
  refine ⟨?_, fun m => ?_, rfl, s.takeNotices_eq⟩
  · rw [State.takeNotice_eq]
    simp only [Entry.unmark_stale]
    rfl
  · rw [State.entry_overtake]
    rfl

/-! ## What a notice makes of an entry armed before it -/

theorem State.entry_takeNotice_done {s : State} {m : Fin 32} {f : Fate} {p : Plan} {k : Kept}
    (h : s.entry m = .done f p k) (x : Notice) : (s.takeNotice x).entry m = .done f p k := by
  rw [State.takeNotice_eq, State.entry_mapEntries, h]
  split <;> rfl

theorem State.entry_takeNoticeList_done {m : Fin 32} {f : Fate} {p : Plan} {k : Kept} (ns : List Notice) {s : State}
    (h : s.entry m = .done f p k) : (ns.foldl State.takeNotice s).entry m = .done f p k := by
  induction ns generalizing s with
  | nil => exact h
  | cons x ns ih => exact ih (State.entry_takeNotice_done h x)

theorem Entry.skipPeriodic_cases (t : Ticks) (p : Plan) (k : Kept) (period : Span) :
    ∃ q kq, q.epochBound = p.epochBound ∧
      (skipPeriodic t p k period = .armed q kq false ∨ skipPeriodic t p k period = .done .skipped q kq) := by
  unfold skipPeriodic
  dsimp only
  split
  · split
    · exact ⟨_, _, by rfl, .inl rfl⟩
    · exact ⟨_, _, by rfl, .inr rfl⟩
  · split
    · split
      · exact ⟨_, _, by rfl, .inl rfl⟩
      · exact ⟨_, _, by rfl, .inr rfl⟩
    · exact ⟨_, _, by rfl, .inr rfl⟩

/-- An ARMED entry that is examined stays ARMED or is DONE SKIPPED, with the same epoch binding (R95). -/
theorem Entry.treat_armed_cases (t : Ticks) (p : Plan) (k : Kept) :
    ∃ q kq, q.epochBound = p.epochBound ∧
      ((∃ late, Entry.treat t (.armed p k false) = .armed q kq late) ∨
        Entry.treat t (.armed p k false) = .done .skipped q kq) := by
  rcases lt_or_ge t.toNat p.due.toNat with h | h
  · exact ⟨p, k, rfl, .inl ⟨false, Entry.treat_early h⟩⟩
  · rw [Entry.treat_due h]
    cases p.late with
    | fireLate => exact ⟨p, k, rfl, .inl ⟨true, rfl⟩⟩
    | drop =>
      cases hc : p.cadence with
      | once => exact ⟨p, _, rfl, .inr (skipOverdue_once hc)⟩
      | periodic period l =>
        obtain ⟨q, kq, hb, h'⟩ := Entry.skipPeriodic_cases t p k period
        dsimp only
        rw [skipOverdue_periodic (by rw [hc]; rfl)]
        exact ⟨q, kq, hb, h'.imp_left fun h => ⟨false, h⟩⟩

/-- An epoch-bound entry that was armed before the notice of its cycle ends DONE STALE, with the plan and the counts that the
examination at its arming has left it (R73, R102; log entry 33). -/
theorem State.entry_takeNotices_bound {u : State} {n : Fin 32} {t : Ticks} {p : Plan} {k : Kept}
    (hn : u.cyc.notices ≠ []) (he : u.entry n = Entry.treat t (.armed p k false)) (hb : p.epochBound = true)
    (hskips : u.cyc.earlySkips.get n = (u.entry n).skippedBound) :
    u.takeNotices.entry n = match Entry.treat t (.armed p k false) with
      | .armed p k _ => .done .stale p k
      | .done _ p k => .done .stale p k
      | e => e := by
  rw [State.takeNotices_eq, if_neg hn]
  obtain ⟨q, kq, hq, hcases⟩ := Entry.treat_armed_cases t p k
  rw [hb] at hq
  rcases hcases with ⟨late, harmed⟩ | hdone
  · rw [harmed] at he ⊢
    have hfirst : u.overtake.entry n = .armed q kq late := by
      rw [State.entry_overtake, he, ite_eq_right_iff]
      exact fun _ => rfl
    obtain ⟨x, xs, hxs⟩ := List.exists_cons_of_ne_nil hn
    rw [hxs]
    exact State.entry_takeNoticeList_done xs (State.takeNotice_bound _ x n q kq late hfirst hq)
  · rw [hdone] at he ⊢
    have hfirst : u.overtake.entry n = .done .stale q kq := by
      rw [State.entry_overtake, hskips, he]
      simp [Entry.skippedBound, hq, Entry.overtaken]
    exact State.entry_takeNoticeList_done _ hfirst

/-! ## The time that a command reads -/

theorem State.edgeLoadDue_isSome (s : State) : s.edgeLoadDue.isSome = s.tb.awaited.any s.completesEdge := by
  unfold State.edgeLoadDue Timebase.awaited
  cases s.tb.state with
  | awaitEdge w => cases h : s.completesEdge w.line <;> simp [h]
  | _ => rfl

theorem State.edgeLoadDue_of_awaited {s : State} {n : Fin 6} (hn : n ∈ s.tb.awaited) (hc : s.completesEdge n = true) :
    ∃ w, s.edgeLoadDue = some w ∧ w.line = n := by
  unfold Timebase.awaited at hn
  split at hn
  next w hw =>
    obtain rfl := Option.some.inj hn
    exact ⟨w, (s.edgeLoadDue_iff w).2 ⟨hw, hc⟩, rfl⟩
  next => cases hn

theorem State.edgeLoadDue_eq_none {s : State} (h : ∀ n ∈ s.tb.awaited, s.completesEdge n = false) :
    s.edgeLoadDue = none := by
  have hany : s.tb.awaited.any s.completesEdge = false := by
    cases ha : s.tb.awaited with
    | none => rfl
    | some n => exact h n ha
  rw [← State.edgeLoadDue_isSome] at hany
  simpa using hany

theorem State.noticeDue_eq (s : State) : s.noticeDue = decide s.NoticeToCome := by
  rw [Bool.eq_iff_iff, decide_eq_true_iff]
  simp [State.noticeDue, State.edgeLoadDue_isSome, or_assoc]

/-! ## SCH_ARM and SCH_PARK -/

theorem Entry.idle_eq_false {e : Entry} (h : ∃ p k late, e = .parked p k ∨ e = .armed p k late) : e.idle = false := by
  obtain ⟨p, k, late, rfl | rfl⟩ := h <;> rfl

theorem Entry.idle_eq_true {e : Entry} (h : e = .free ∨ ∃ f p k, e = .done f p k) : e.idle = true := by
  obtain rfl | ⟨f, p, k, rfl⟩ := h <;> rfl

section
variable {arg : Byte} {put : Plan → Entry} {s : State}

theorem State.compose_badIndex (h : 31 < arg.toNat) : s.compose arg put = (s, .badIndex) := by
  rw [State.compose, indexOf_eq_none_iff.2 h]

theorem State.compose_badState (h : arg.toNat < 32) (he : (s.entry ⟨arg.toNat, h⟩).idle = false) :
    s.compose arg put = (s, .badState) := by
  rw [State.compose, indexOf_of_lt h]
  simp [he]

theorem State.compose_badField (h : arg.toNat < 32) (he : (s.entry ⟨arg.toNat, h⟩).idle = true)
    (hp : s.sched.staging.plan ⟨arg.toNat, h⟩ = none) : s.compose arg put = (s, .badField) := by
  rw [State.compose, indexOf_of_lt h]
  simp [he, hp]

theorem State.compose_ok (h : arg.toNat < 32) (he : (s.entry ⟨arg.toNat, h⟩).idle = true) {p : Plan}
    (hp : s.sched.staging.plan ⟨arg.toNat, h⟩ = some p) :
    s.compose arg put =
      ((s.setEntry ⟨arg.toNat, h⟩ (put p)).noteArming ⟨arg.toNat, h⟩, .ok) := by
  rw [State.compose, indexOf_of_lt h]
  simp [he, hp]

end

/-- An entry put in the table by a command, with the note of its arming (R73, R102). -/
theorem State.noteArming_setEntry (s : State) (n : Fin 32) (e : Entry) :
    (s.setEntry n e).noteArming n = { s with
      sched := { s.sched with entries := s.sched.entries.set n e }
      cyc := { s.cyc with
        earlySkips := s.cyc.earlySkips.set n (decide s.NoticeToCome && e.skippedBound) } } := by
  have hnote : (s.setEntry n e).noteArming n = (s.setEntry n e).setCyc
      { s.cyc with earlySkips := s.cyc.earlySkips.set n (s.noticeDue && ((s.setEntry n e).entry n).skippedBound) } := rfl
  rw [hnote, State.noticeDue_eq, State.entry_setEntry, if_pos rfl]
  rfl

/-- An entry armed from the staging record, as the examination at its arming leaves it (R70, R93). -/
theorem Entry.treat_start (now : Ticks) (p : Plan) (epoch : Epoch) :
    Entry.treat now (.armed p (Kept.start p (some epoch)) false) =
      let k : Kept := { remaining := p.cadence.limit, fires := 0, skips := 0, lastFire := none, armedEpoch := some epoch }
      if p.due.toNat ≤ now.toNat then
        match p.late, p.cadence with
        | .fireLate, _ => .armed p k true
        | .drop, .once => .done .skipped p { k with skips := 1 }
        | .drop, .periodic period _ => skipPeriodic now p k period
      else .armed p k false := by
  have hk : Kept.start p (some epoch) =
      { remaining := p.cadence.limit, fires := 0, skips := 0, lastFire := none, armedEpoch := some epoch } := by
    cases hc : p.cadence <;> simp [Kept.start, hc, Cadence.limit]
  rw [hk]
  dsimp only
  split
  next h =>
    rw [Entry.treat_due h]
    cases p.late with
    | fireLate => rfl
    | drop =>
      cases hc : p.cadence with
      | once => exact skipOverdue_once hc
      | periodic period l => exact skipOverdue_periodic (by rw [hc]; rfl)
  next h => exact Entry.treat_early (not_le.1 h)

theorem Kept.start_none (p : Plan) :
    Kept.start p none =
      { remaining := p.cadence.limit, fires := 0, skips := 0, lastFire := none, armedEpoch := none } := by
  cases hc : p.cadence <;> simp [Kept.start, hc, Cadence.limit]

theorem exec_schArm_of_owner {arg : Byte} {s t : State} {code : ResultCode} (hs : s.takesBytes = true)
    (ho : State.schArm arg s = (t, code)) (ht : t.resetLow = s.resetLow) :
    exec (.schArm arg) s = .next (t.answered 0x6F code) :=
  congrArg Host.Outcome.next (State.command_of_owner hs ho ht)

theorem exec_schPark_of_owner {arg : Byte} {s t : State} {code : ResultCode} (hs : s.takesBytes = true)
    (ho : State.schPark arg s = (t, code)) (ht : t.resetLow = s.resetLow) :
    exec (.schPark arg) s = .next (t.answered 0x70 code) :=
  congrArg Host.Outcome.next (State.command_of_owner hs ho ht)

/-- Settles O27: the two commands share their checks, and an entry armed before a notice meets it as
`State.entry_takeNotices_bound` says. -/
theorem armAndParkCopyTheStagingRecord : Obligations.ArmAndParkCopyTheStagingRecord := by
  intro arg s hs now epoch put start armed
  have hput : ∀ n e, (s.setEntry n e).noteArming n = put n e := fun n e => by
    rw [State.noteArming_setEntry]
    cases e with
    | done f p k => cases f <;> rfl
    | _ => rfl
  have harmed : ∀ p, Entry.treat now (.armed p (Kept.start p (some s.armingEpoch)) false) = armed p :=
    fun p => Entry.treat_start now p s.armingEpoch
  refine ⟨fun h => ⟨exec_schArm_of_owner hs (State.compose_badIndex h) rfl,
    exec_schPark_of_owner hs (State.compose_badIndex h) rfl⟩, fun h => ⟨fun hbusy => ?busy, fun hidle => ?idle⟩⟩
  case busy =>
    have he := Entry.idle_eq_false hbusy
    exact ⟨exec_schArm_of_owner hs (State.compose_badState h he) rfl,
      exec_schPark_of_owner hs (State.compose_badState h he) rfl⟩
  case idle =>
    have he := Entry.idle_eq_true hidle
    refine ⟨fun hp => ⟨exec_schArm_of_owner hs (State.compose_badField h he hp) rfl,
      exec_schPark_of_owner hs (State.compose_badField h he hp) rfl⟩, fun p hp => ⟨?arm, ?stale, ?park⟩⟩
    case arm =>
      refine exec_schArm_of_owner hs ?_ rfl
      rw [State.schArm, State.compose_ok h he hp, hput, harmed]
    case park =>
      refine exec_schPark_of_owner hs ?_ rfl
      rw [State.schPark, State.compose_ok h he hp, hput, Kept.start_none]
    case stale =>
      intro hcome hb ns hns u
      have hentry : ({ u with cyc := { u.cyc with notices := ns } } : State).entry ⟨arg.toNat, h⟩ = armed p :=
        Bank.get_set_same _ _ _
      have hskips : u.cyc.earlySkips.get ⟨arg.toNat, h⟩ = (armed p).skippedBound := by
        rw [← Bool.true_and (armed p).skippedBound, ← decide_eq_true hcome]
        exact (congrArg (fun x : State => x.cyc.earlySkips.get ⟨arg.toNat, h⟩) (hput ⟨arg.toNat, h⟩ (armed p))).symm.trans
          (by rw [State.noteArming_setEntry, Bank.get_set_same])
      rw [← hentry] at hskips
      rw [← harmed] at hentry ⊢
      exact State.entry_takeNotices_bound hns hentry hb hskips

end Sys2Proof.Machine
end

section
/-! The other commands of the table (R74 to R79), the hold set (R104 to R107, R155) and the dispatch decision (R86 to R91). -/
namespace Sys2Proof.Machine

/-! ## Cancelling, freeing, viewing -/

theorem State.spendDecision_eq (b : Bool) (s : State) :
    s.spendDecision b = { s with cyc := { s.cyc with decided := s.cyc.decided || b } } := by
  cases b <;> simp [State.spendDecision, State.setCyc]

/-- The entry that the decision would dispatch, with its conditions as the rules put them (R86, R103). -/
def State.Dispatches (s : State) (i : Fin 32) : Bool :=
  decide (s.disp = { s.disp with holdHost := false, holdGuard := false } ∧ dueHead s.sched.entries = some i) &&
  match s.entry i with
  | .armed p _ _ => decide (p.due.toNat ≤ s.presented.time.toNat)
  | _ => false

theorem Dispatcher.free_iff_eq (d : Dispatcher) : d.free = true ↔ d = { d with holdHost := false, holdGuard := false } := by
  obtain ⟨host, grd, fault⟩ := d
  cases host <;> cases grd <;> simp [Dispatcher.free]

theorem State.dispatchable_eq_some_iff (s : State) (i : Fin 32) :
    s.dispatchable = some i ↔ s.Dispatches i = true := by
  rw [State.dispatchable_iff, Dispatcher.free_iff_eq]
  unfold State.Dispatches
  cases s.entry i <;> simp [BitVec.le_def, and_assoc]

theorem State.dispatchable_beq (s : State) (i : Fin 32) : (s.dispatchable == some i) = s.Dispatches i := by
  rw [Bool.eq_iff_iff, beq_iff_eq, State.dispatchable_eq_some_iff]

theorem State.dispatchable_isSome (s : State) : s.dispatchable.isSome = (List.finRange 32).any s.Dispatches := by
  rw [Bool.eq_iff_iff, Option.isSome_iff_exists, List.any_eq_true]
  simp only [State.dispatchable_eq_some_iff, List.mem_finRange, true_and]

section
variable {arg : Byte} {s : State}

theorem State.schCancel_idle (h : arg.toNat < 32) (he : (s.entry ⟨arg.toNat, h⟩).idle = true) :
    State.schCancel arg s = (s, .badState) := by
  rw [State.schCancel, indexOf_of_lt h]
  simp [he]

theorem State.schCancel_busy (h : arg.toNat < 32) (he : (s.entry ⟨arg.toNat, h⟩).idle = false) :
    State.schCancel arg s =
      ((s.spendDecision (s.dispatchable == some ⟨arg.toNat, h⟩)).setEntry ⟨arg.toNat, h⟩
        ((s.entry ⟨arg.toNat, h⟩).finish .cancelled), .ok) := by
  rw [State.schCancel, indexOf_of_lt h]
  simp [he]

end

/-- Settles O28: each command by its checks; the dispatchable entry is the one for which `State.Dispatches` holds. -/
theorem cancelFreeAndViewEntries : Obligations.CancelFreeAndViewEntries := by
  intro arg s hs put cancelled dispatches spent
  have hcancelled : ∀ e, Entry.finish .cancelled e = cancelled e := fun e => by cases e <;> rfl
  refine ⟨?cancelAll, fun h => ⟨?_, ?_, ?_⟩, fun h => ⟨?cancelOne, ?freeOne, ?viewOne⟩⟩
  case cancelAll =>
    refine congrArg Host.Outcome.next (State.command_of_owner hs ?_ rfl)
    rw [State.schCancelAll, State.dispatchable_isSome, State.spendDecision_eq, State.mapEntries, funext hcancelled]
    rfl
  case cancelOne =>
    cases he : s.entry ⟨arg.toNat, h⟩ with
    | free | done =>
      exact congrArg Host.Outcome.next
        (State.command_of_owner hs (State.schCancel_idle h (by rw [he]; rfl)) rfl)
    | parked | armed =>
      refine congrArg Host.Outcome.next (State.command_of_owner hs ?_ rfl)
      rw [State.schCancel_busy h (by rw [he]; rfl), State.dispatchable_beq, State.spendDecision_eq, he]
      rfl
  case freeOne =>
    have hfree : State.schFree arg s = match s.entry ⟨arg.toNat, h⟩ with
        | .done _ _ _ => (put ⟨arg.toNat, h⟩ .free, .ok)
        | _ => (s, .badState) := by
      rw [State.schFree, indexOf_of_lt h]
      rfl
    cases he : s.entry ⟨arg.toNat, h⟩ <;> rw [he] at hfree
    all_goals exact congrArg Host.Outcome.next (State.command_of_owner hs hfree rfl)
  case viewOne =>
    exact congrArg Host.Outcome.next
      (State.command_of_owner hs (by rw [State.schView, indexOf_of_lt h]; rfl) rfl)
  all_goals
    refine congrArg Host.Outcome.next (State.command_of_owner hs ?_ rfl)
  · rw [State.schCancel, indexOf_eq_none_iff.2 h]
  · rw [State.schFree, indexOf_eq_none_iff.2 h]
  · rw [State.schView, indexOf_eq_none_iff.2 h]

/-! ## The hold set -/

theorem State.sweepIfFree_held (s : State) (h : s.disp.holdHost = true ∨ s.disp.holdGuard = true) : s.sweepIfFree = s := by
  rw [State.sweepIfFree, if_neg]
  rw [Dispatcher.free_iff]
  rcases h with h | h <;> simp [h]

theorem State.sweepIfFree_free (s : State) (hh : s.disp.holdHost = false) (hg : s.disp.holdGuard = false) :
    s.sweepIfFree = s.sweepFree := by
  rw [State.sweepIfFree, if_pos]
  exact (Dispatcher.free_iff _).2 ⟨hh, hg⟩

/-- The sweep of an emptied hold set, by what of the cycle is still to come (R105 to R107). -/
theorem State.sweepFree_cases (s : State) :
    (∀ n ∈ s.tb.awaited, s.completesEdge n = true → s.sweepFree = s.takeCapture n) ∧
    ((∀ n ∈ s.tb.awaited, s.completesEdge n = false) →
      ((∃ x ∈ s.cyc.notices, x.sweep = true) → s.sweepFree = s.takeNotices) ∧
      ((∀ x ∈ s.cyc.notices, x.sweep = false) → s.sweepFree = s.sweep s.presented.time)) := by
  refine ⟨fun n hn hc => ?_, fun hnone => ⟨fun hx => ?_, fun hx => ?_⟩⟩
  · obtain ⟨w, hw, rfl⟩ := State.edgeLoadDue_of_awaited hn hc
    exact s.sweepFree_edgeLoad w hw
  · exact s.sweepFree_notice (State.edgeLoadDue_eq_none hnone) (List.any_eq_true.2 hx)
  · refine s.sweepFree_now (State.edgeLoadDue_eq_none hnone) (List.any_eq_false.2 fun x hm => ?_)
    simp [hx x hm]

theorem State.takeCapture_resetLow (n : Fin 6) (s : State) : (s.takeCapture n).resetLow = s.resetLow := by simp

theorem State.takeNotices_resetLow (s : State) : s.takeNotices.resetLow = s.resetLow := by simp

/-- Settles O29: the hold set is emptied or not, and the sweep of an emptied one is that of `State.sweepFree_cases`. -/
theorem holdAndResume : Obligations.HoldAndResume := by
  intro arg s hs b
  have hresume : ∀ t, State.schResume s = (t, .ok) → t.resetLow = s.resetLow →
      exec (.schResume arg) s = .next (t.answered 0x76 .ok) := fun t ht hr =>
    congrArg Host.Outcome.next (State.command_of_owner hs ht hr)
  have hpresent : s.disp.holdHost = true → State.schResume s = (b.sweepIfFree, .ok) := fun h => if_pos h
  refine ⟨congrArg Host.Outcome.next (State.command_of_owner hs rfl rfl), fun h => ?absent, fun h hg => ?held,
    fun h hg => ?freed⟩
  case absent =>
    exact congrArg Host.Outcome.next
      (State.command_of_owner hs (if_neg (by simp [h]) : State.schResume s = (s, .badState)) rfl)
  case held =>
    refine hresume _ ?_ rfl
    rw [hpresent h, State.sweepIfFree_held b (.inr hg)]
  case freed =>
    obtain ⟨hedge, hnone⟩ := State.sweepFree_cases b
    have hfree : State.schResume s = (b.sweepFree, .ok) := by
      rw [hpresent h, State.sweepIfFree_free b rfl hg]
    refine ⟨fun n hn hc => ⟨b.takeCapture n, rfl, hresume _ ?_ (b.takeCapture_resetLow n)⟩, fun hn =>
      ⟨fun hx => hresume _ ?_ b.takeNotices_resetLow, fun hx => hresume _ ?_ rfl⟩⟩
    · rw [hfree, hedge n hn hc]
    · rw [hfree, (hnone hn).1 hx]
    · rw [hfree, (hnone hn).2 hx]
      rfl

theorem GuardLine.quiet_iff (l : GuardLine) : l.quiet = true ↔ (l.enabled = true → l.state = .inactive) := by
  cases h : l.enabled <;> simp [GuardLine.quiet, h]

theorem State.grdRelease_untripped {s : State} (ht : s.guard.tripped = false) : s.grdRelease = (s, .badState) := by
  simp [State.grdRelease, ht]

theorem State.grdRelease_active {s : State} (ht : s.guard.tripped = true)
    (hq : ∃ n, (s.guard.lines.get n).enabled = true ∧ (s.guard.lines.get n).state ≠ .inactive) :
    s.grdRelease = (s, .guardActive) := by
  have hall : s.guard.lines.all GuardLine.quiet = false := by
    rw [← Bool.not_eq_true, Bank.all_iff]
    obtain ⟨n, hen, hst⟩ := hq
    exact fun h => hst ((GuardLine.quiet_iff _).1 (h n) hen)
  simp [State.grdRelease, ht, hall]

theorem State.grdRelease_quiet {s : State} (ht : s.guard.tripped = true)
    (hq : ∀ n, (s.guard.lines.get n).enabled = true → (s.guard.lines.get n).state = .inactive) :
    s.grdRelease =
      (State.sweepIfFree { s with
        guard := { s.guard with tripped := false }, disp := { s.disp with holdGuard := false } }, .ok) := by
  have hall : s.guard.lines.all GuardLine.quiet = true :=
    (Bank.all_iff _ _).2 fun n => (GuardLine.quiet_iff _).2 (hq n)
  simp [State.grdRelease, ht, hall, State.setGuard, State.setDisp]

/-- Settles O47: the release by its checks; the sweep of an emptied hold set is that of `State.sweepFree_cases`. -/
theorem releaseNeedsQuietLines : Obligations.ReleaseNeedsQuietLines := by
  intro arg s hs b
  have hrelease : ∀ t code, State.grdRelease s = (t, code) → t.resetLow = s.resetLow →
      exec (.grdRelease arg) s = .next (t.answered 0x7B code) := fun t code ht hr =>
    congrArg Host.Outcome.next (State.command_of_owner hs ht hr)
  refine ⟨fun ht => hrelease _ _ (State.grdRelease_untripped ht) rfl, fun ht =>
    ⟨fun hq => hrelease _ _ (State.grdRelease_active ht hq) rfl, fun hq => ⟨fun hh => ?held, fun hh => ?freed⟩⟩⟩
  case held =>
    exact hrelease b _ ((State.grdRelease_quiet ht hq).trans
      (congrArg (fun x => (x, ResultCode.ok)) (State.sweepIfFree_held b (.inl hh)))) rfl
  case freed =>
    obtain ⟨hedge, hnone⟩ := State.sweepFree_cases b
    have hfree : State.grdRelease s = (b.sweepFree, .ok) :=
      (State.grdRelease_quiet ht hq).trans
        (congrArg (fun x => (x, ResultCode.ok)) (State.sweepIfFree_free b hh rfl))
    refine ⟨fun n hn hc => ⟨b.takeCapture n, rfl, hrelease _ _ ?_ (b.takeCapture_resetLow n)⟩, fun hn =>
      ⟨fun hx => hrelease _ _ ?_ b.takeNotices_resetLow, fun hx => hrelease _ _ ?_ rfl⟩⟩
    · rw [hfree, hedge n hn hc]
    · rw [hfree, (hnone hn).1 hx]
    · rw [hfree, (hnone hn).2 hx]
      rfl

/-! ## The dispatch decision -/

theorem State.takeDispatch_open (order : ActionOrder) {s : State} (h : s.cyc.decided = false) :
    s.takeDispatch order = State.dispatchHead order { s with cyc := { s.cyc with decided := true } } := by
  simp [State.takeDispatch, h, State.setCyc]

theorem State.dispatchHead_none (order : ActionOrder) {s : State} (h : s.dispatchable = none) :
    s.dispatchHead order = s := by
  simp [State.dispatchHead, h]

theorem State.dispatchHead_some (order : ActionOrder) {s : State} {i : Fin 32} {p : Plan} {k : Kept} {late : Bool}
    (hf : s.disp.free = true) (hi : dueHead s.sched.entries = some i) (he : s.entry i = .armed p k late)
    (hd : p.due.toNat ≤ s.presented.time.toNat) : s.dispatchHead order = s.fire order i p k late := by
  have hsome : s.dispatchable = some i :=
    (s.dispatchable_iff i).2 ⟨hf, hi, p, k, late, he, BitVec.le_def.2 hd⟩
  simp [State.dispatchHead, hsome, he]

theorem State.dispatchable_eq_none {s : State}
    (h : s.disp.holdHost = true ∨ s.disp.holdGuard = true ∨ dueHead s.sched.entries = none ∨
      ∃ i p k late, dueHead s.sched.entries = some i ∧ s.entry i = .armed p k late ∧
        s.presented.time.toNat < p.due.toNat) : s.dispatchable = none := by
  rw [Option.eq_none_iff_forall_ne_some]
  intro j hj
  obtain ⟨hfree, hhead, p', k', late', he', hd'⟩ := (s.dispatchable_iff j).1 hj
  obtain ⟨hhost, hguard⟩ := (Dispatcher.free_iff _).1 hfree
  rcases h with h | h | h | ⟨i, p, k, late, hi, he, hd⟩
  · simp [h] at hhost
  · simp [h] at hguard
  · simp [h] at hhead
  · rw [hi] at hhead
    obtain rfl := Option.some.inj hhead
    rw [he] at he'
    obtain ⟨rfl, -, -⟩ := Entry.armed.inj he'
    exact absurd (BitVec.le_def.1 hd') (not_le.2 hd)

/-- Settles O31: a decision already taken, or one that finds nothing to dispatch. -/
theorem dispatchIsWithheld : Obligations.DispatchIsWithheld := by
  intro order s
  refine ⟨fun h => congrArg Host.Outcome.next (s.takeDispatch_decided order h), fun h hnothing => congrArg Host.Outcome.next ?_⟩
  rw [State.takeDispatch_open order h]
  exact State.dispatchHead_none order (State.dispatchable_eq_none hnothing)

/-- The two places of an action against a trip of the same cycle (R88, R122). -/
theorem State.handAction_eq (order : ActionOrder) (d : Deed) {s : State} (ht : s.guard.tripped = false)
    (ha : s.cyc.action = none) :
    s.handAction order d = { s with
      outs := match order with
        | .actionFirst => d.act s.outs
        | .afterTrip => s.outs
      cyc := { s.cyc with action := match order with
        | .actionFirst => none
        | .afterTrip => some d } } := by
  cases order with
  | actionFirst =>
    have hc : { s.cyc with action := none } = s.cyc := by rw [← ha]
    simp [State.handAction, State.takeAction, ht, State.setOuts, hc]
  | afterTrip => rfl

theorem latenessOf_eq (t due : Ticks) : latenessOf t due = BitVec.ofNat 24 (min (t.toNat - due.toNat) 16777215) := rfl

theorem fateOf_eq (t : Ticks) (p : Plan) (k : Kept) :
    fateOf t p k = match p.cadence with
      | .once => .done .completed p { k with fires := satAdd k.fires 1, lastFire := some t }
      | .periodic period _ => refire t p { k with fires := satAdd k.fires 1, lastFire := some t } period := rfl

end Sys2Proof.Machine
end

section
/-! The dispatch of the head of the due queue (R87 to R91). -/
namespace Sys2Proof.Machine

/-! ## Raised flags -/

section
variable (s : State)

theorem State.raise_flags (f : Flag) :
    s.raise f = { s with icu := { s.icu with flags := bif s.resetLow then s.icu.flags else s.icu.flags.set f } } := by
  by_cases h : s.resetLow = true
  · rw [State.raise_low f s h, cond_eq_ite, if_pos h]
  · rw [State.raise_eq f s (Bool.eq_false_iff.2 h), cond_eq_ite, if_neg h]

theorem State.raise_tbevt :
    s.raise .tbevt = { s with
      icu := { s.icu with flags := { s.icu.flags with tbevt := s.icu.flags.tbevt || !s.resetLow } } } := by
  rw [State.raise_flags]
  cases s.resetLow <;> simp [Flags.set]

theorem State.raise_sfault :
    s.raise .sfault = { s with
      icu := { s.icu with flags := { s.icu.flags with sfault := s.icu.flags.sfault || !s.resetLow } } } := by
  rw [State.raise_flags]
  cases s.resetLow <;> simp [Flags.set]

theorem State.raise_gtrip :
    s.raise .gtrip = { s with
      icu := { s.icu with flags := { s.icu.flags with gtrip := s.icu.flags.gtrip || !s.resetLow } } } := by
  rw [State.raise_flags]
  cases s.resetLow <;> simp [Flags.set]

theorem State.schedFault_eq (f : SchedFault) :
    s.schedFault f = { s with
      disp := { s.disp with fault := f }
      icu := { s.icu with flags := { s.icu.flags with sfault := s.icu.flags.sfault || !s.resetLow } } } := by
  rw [State.schedFault, State.raise_sfault]
  rfl

end

/-! ## The two steps of a dispatch -/

/-- The last step of a dispatch at time `t`: the entry's fate, and the FIRE record where notify is yes (R90, R91). -/
def State.settleFire (i : Fin 32) (p : Plan) (k : Kept) (late missed : Bool) (t : Ticks) (s : State) : State :=
  let e := fateOf t p k
  { s with
    sched := { s.sched with entries := s.sched.entries.set i e }
    cyc := { s.cyc with
      offers := if p.notify then
          insertOffer { time := t, epoch := s.presented.epoch,
                        body := .fire i late (!e.isArmed) missed (latenessOf t p.due) } s.cyc.offers
        else s.cyc.offers } }

theorem State.fire_eq (order : ActionOrder) (i : Fin 32) (p : Plan) (k : Kept) (late : Bool) (s : State) :
    s.fire order i p k late =
      let r := (s.handAction order p.deed).followLink i p
      r.1.settleFire i p k late r.2 s.presented.time := by
  rw [State.fire]
  unfold State.settleFire
  cases p.notify <;> rfl

/-- The state in which the decision is taken and the action handed on (R86, R88). -/
def State.takeDecision (order : ActionOrder) (d : Deed) (s : State) : State :=
  { s with
    outs := match order with
      | .actionFirst => d.act s.outs
      | .afterTrip => s.outs
    cyc := { s.cyc with
      decided := true
      action := match order with
        | .actionFirst => none
        | .afterTrip => some d } }

theorem State.takeDispatch_head (order : ActionOrder) {s : State} {i : Fin 32} {p : Plan} {k : Kept} {late : Bool}
    (hopen : s.cyc.decided = false) (ha : s.cyc.action = none) (hf : s.disp.free = true)
    (ht : s.guard.tripped = false) (hi : dueHead s.sched.entries = some i) (he : s.entry i = .armed p k late)
    (hd : p.due.toNat ≤ s.presented.time.toNat) :
    s.takeDispatch order =
      let r := (s.takeDecision order p.deed).followLink i p
      r.1.settleFire i p k late r.2 s.presented.time := by
  have hhead : (State.dispatchHead order { s with cyc := { s.cyc with decided := true } }) =
      State.fire order i p k late { s with cyc := { s.cyc with decided := true } } :=
    State.dispatchHead_some order hf hi he hd
  have hhand : State.handAction order p.deed { s with cyc := { s.cyc with decided := true } } = s.takeDecision order p.deed :=
    State.handAction_eq order p.deed ht ha
  rw [State.takeDispatch_open order hopen, hhead, State.fire_eq, hhand]
  rfl

/-- Settles O32: without a link the dispatch is the handed action and the last step. -/
theorem dispatchFiresTheHead : Obligations.DispatchFiresTheHead := by
  intro order s i p k late t k' e record hopen ha hf ht hi he hd hl
  refine congrArg Host.Outcome.next ((State.takeDispatch_head order hopen ha hf ht hi he hd).trans ?_)
  have hlink : (s.takeDecision order p.deed).followLink i p = (s.takeDecision order p.deed, false) := by
    rw [State.followLink, hl]
  rw [hlink]
  rfl

section
variable {s : State} {i : Fin 32} {p : Plan} {l : Link}

theorem State.followLink_missed (hl : p.link = some l)
    (hm : (∀ q kq, s.entry l.entry ≠ .parked q kq) ∨ 2 ^ 56 ≤ p.due.toNat + l.offset.toNat) :
    s.followLink i p = (s.schedFault (.linkMiss i), true) := by
  have hmiss : (s.requestArm l.entry (p.due.toNat + l.offset.toNat) (.linkMiss i)).2 = true := by
    rw [← Bool.not_eq_false, State.requestArm_miss]
    rintro ⟨⟨q, kq, hq⟩, hdue⟩
    exact hm.elim (fun h => h q kq hq) (fun h => absurd hdue (not_lt.2 h))
  rw [State.followLink, hl]
  simp only [hmiss, State.requestArm_missed _ _ _ s hmiss, if_true]

theorem State.followLink_armed {q : Plan} {kq : Kept} (hl : p.link = some l) (hq : s.entry l.entry = .parked q kq)
    (hdue : p.due.toNat + l.offset.toNat < 2 ^ 56) :
    s.followLink i p =
      ((s.setEntry l.entry (armParked s.presented.time s.presented.epoch (p.due.toNat + l.offset.toNat) q kq)).noteArming
        l.entry, false) := by
  rw [State.followLink, hl]
  simp only [State.requestArm_armed _ _ _ s q kq hq hdue]
  simp

end

/-- Settles O33: the link misses or arms its target, and the last step leaves the target's entry. -/
theorem dispatchFollowsTheLink : Obligations.DispatchFollowsTheLink := by
  intro order s i p k late l t k' e due armed missed record hopen ha hf ht hi he hd hl hne
  have hstep : exec (.dispatch order) s = .next _ :=
    congrArg Host.Outcome.next (State.takeDispatch_head order hopen ha hf ht hi he hd)
  have hown : ∀ b : Bank Entry 32, (b.set i e).get i = e := fun b => Bank.get_set_same b i e
  have hother : ∀ (b : Bank Entry 32) m, m ≠ i → (b.set i e).get m = b.get m := fun b m hm => by
    rw [Bank.get_set, if_neg (Ne.symm hm)]
  have htarget : ∀ (b : Bank Entry 32) (x : Entry), ((b.set l.entry x).set i e).get l.entry = x := fun b x => by
    rw [hother _ _ hne, Bank.get_set_same]
  by_cases hm : missed
  case pos =>
    have hlink : (s.takeDecision order p.deed).followLink i p = _ := State.followLink_missed hl hm
    rw [hlink, State.schedFault_eq] at hstep
    refine ⟨_, true, hstep, iff_of_true rfl hm, hown _, fun _ => ⟨hother _ _ hne, rfl, rfl⟩, fun h => absurd hm h,
      fun m hi _ => hother _ m hi, rfl, rfl, rfl, rfl, rfl, rfl, rfl, rfl, rfl, rfl⟩
  case neg =>
    obtain ⟨hparked, hdue⟩ := not_or.1 hm
    push Not at hparked
    obtain ⟨q, kq, hq⟩ := hparked
    obtain ⟨x, hx⟩ : ∃ x, x = armed q kq := ⟨_, rfl⟩
    have hlink : (s.takeDecision order p.deed).followLink i p =
        (((s.takeDecision order p.deed).setEntry l.entry x).noteArming l.entry, false) := by
      rw [hx]
      exact State.followLink_armed hl hq (not_le.1 hdue)
    rw [hlink, State.noteArming_setEntry] at hstep
    generalize hu : State.settleFire i p k late false s.presented.time _ = u at hstep
    have hentry : u.entry l.entry = x := by
      rw [← hu]
      exact htarget _ _
    have hnote : u.cyc.earlySkips.get l.entry = (decide s.NoticeToCome && x.skippedBound) := by
      rw [← hu]
      exact Bank.get_set_same _ _ _
    refine ⟨u, false, hstep, iff_of_false Bool.false_ne_true hm, ?own, fun h => absurd h hm, fun _ => ?armed,
      fun m hi hl => ?rest, ?cycle, ?outs⟩
    case own =>
      rw [← hu]
      exact hown _
    case rest =>
      rw [← hu]
      exact (hother _ m hi).trans ((Bank.get_set _ _ _ _).trans (if_neg (Ne.symm hl)))
    case cycle =>
      rw [hentry, ← hu]
      rfl
    case outs =>
      rw [← hu]
      exact ⟨rfl, rfl, rfl, rfl, rfl, rfl, rfl, rfl, rfl⟩
    case armed =>
      refine ⟨by rw [← hu]; rfl, by rw [← hu]; rfl, fun q' kq' hq' => ?_⟩
      obtain ⟨rfl, rfl⟩ := Entry.parked.inj (hq.symm.trans hq')
      refine ⟨hentry.trans hx, fun hcome hb ns hns => ?_⟩
      have hskips : u.cyc.earlySkips.get l.entry = (u.entry l.entry).skippedBound := by
        rw [hnote, decide_eq_true hcome, Bool.true_and, hentry]
      exact State.entry_takeNotices_bound hns (hentry.trans hx) hb hskips

end Sys2Proof.Machine
end

section
/-! The REFCLK cycles (R3, R5, R6, R11 to R17, R33, R45, R119, R148). -/
namespace Sys2Proof.Machine

/-! ## The beginning of a cycle -/

/-- What a counting cycle opens with, before a SLEW_END that is taken as it opens (R5, R17, R33). -/
def State.countOn (pins : InputPins) (s : State) : State :=
  let x := s.tick pins false
  { x with
    tb := s.tb.countCycle
    cyc := { x.cyc with wrapDue := decide (Config.timeModulus ≤ s.tb.counted), slewEndDue := s.tb.slewEnds } }

theorem State.beginCounting_eq (pins : InputPins) (order : EndOrder) (s : State) :
    s.beginCounting pins order =
      if order = .endFirst ∧ (s.countOn pins).cyc.wrapDue = false then (s.countOn pins).offerSlewEnd else s.countOn pins := by
  cases order with
  | endLast => rfl
  | endFirst =>
    cases h : (s.countOn pins).cyc.wrapDue with
    | false => exact (if_neg (show ¬(s.countOn pins).cyc.wrapDue = true by rw [h]; decide)).trans (if_pos (by simp)).symm
    | true => exact (if_pos h).trans (if_neg (by simp)).symm

theorem State.offerSlewEnd_some {s : State} {a : Int} (h : s.cyc.slewEndDue = some a) :
    s.offerSlewEnd = { s with
      cyc := { s.cyc with
        slewEndDue := none
        offers := insertOffer { time := s.tb.time, epoch := s.tb.epoch, body := .step .slewEnd false a } s.cyc.offers }
      icu := { s.icu with flags := { s.icu.flags with tbevt := s.icu.flags.tbevt || !s.resetLow } } } := by
  rw [State.offerSlewEnd, h]
  simp only []
  rw [State.raise_tbevt]
  rfl

theorem State.beginCounting_plain (pins : InputPins) (order : EndOrder) {s : State} (h : s.tb.slewEnds = none) :
    s.beginCounting pins order = s.countOn pins := by
  rw [State.beginCounting_eq, State.offerSlewEnd_none (s.countOn pins) h, ite_self]

theorem State.offerSlewEnd_cyc (s : State) :
    s.offerSlewEnd.cyc = { s.cyc with slewEndDue := none, offers := s.offerSlewEnd.cyc.offers } := by
  cases h : s.cyc.slewEndDue with
  | none => 
    rw [State.offerSlewEnd_none s h, ← h]
  | some a => rw [State.offerSlewEnd_some h]

section
variable (s : State) (pins : InputPins) (order : EndOrder)

theorem State.countingCycleIf_true (p : Timebase → Bool) (h : s.endCycle.tb.state.counting = true)
    (hp : p s.endCycle.tb = true) :
    s.countingCycleIf p ⟨pins, order⟩ = s.endCycle.beginCounting pins order := by
  simp [State.countingCycleIf, h, hp]

theorem exec_countingCycle (h : s.endCycle.tb.state.counting = true) :
    exec (.countingCycle ⟨pins, order⟩) s = .next (s.endCycle.beginCounting pins order) := by
  rw [← State.countingCycleIf_true s pins order (fun _ => true) h rfl]
  rfl

theorem exec_frozenCycle (h : s.endCycle.tb.state.counting = false) :
    exec (.frozenCycle pins) s = .next (s.endCycle.beginFrozen pins) := by
  have hstep : exec (.frozenCycle pins) s =
      .next (if s.endCycle.tb.state.counting then s else s.endCycle.beginFrozen pins) := rfl
  rw [hstep, h]
  rfl

theorem State.beginCounting_frame_tick :
    (s.beginCounting pins order).cap = (s.tick pins false).cap ∧
    (s.beginCounting pins order).outs = (s.tick pins false).outs ∧
    (s.beginCounting pins order).guard = (s.tick pins false).guard ∧
    (s.beginCounting pins order).pins = (s.tick pins false).pins ∧
    (s.beginCounting pins order).sp = (s.tick pins false).sp ∧
    (s.beginCounting pins order).cyc = { (s.tick pins false).cyc with
      wrapDue := decide (Config.timeModulus ≤ s.tb.counted)
      slewEndDue := (s.beginCounting pins order).cyc.slewEndDue
      offers := (s.beginCounting pins order).cyc.offers } := by
  rw [State.beginCounting_eq]
  split
  · rw [State.offerSlewEnd_cyc]
    simp only [State.offerSlewEnd_frame]
    exact ⟨rfl, rfl, rfl, rfl, rfl, rfl⟩
  · exact ⟨rfl, rfl, rfl, rfl, rfl, rfl⟩

end

theorem clock_wraps_iff (c : BitVec 16) : (c + 1 == 0) = decide ((c.toNat + 1) % 65536 = 0) := by
  rw [Bool.eq_iff_iff, beq_iff_eq, decide_eq_true_iff, ← BitVec.toNat_inj, BitVec.toNat_add]
  rfl

theorem CapLine.tick_eq (l : CapLine) :
    l.tick = if l.enabled then
        { l with
          due := decide (l.interval = 0)
          interval := BitVec.ofNat 7 ((l.interval.toNat + 1) % 2 ^ l.divisor.toNat) }
      else { l with due := false } := rfl

theorem OutLine.tick_eq (l : OutLine) :
    l.tick = { l with pulse := l.pulse.map fun p => { p with remaining := p.remaining - 1 } } := by
  obtain ⟨mode, idle, level, pulse⟩ := l
  cases pulse <;> rfl

theorem SerialPort.select_eq (low cs : Bool) (sp : SerialPort) :
    (if cs then sp.select low else sp) =
      if cs = true ∧ sp.tx = .idle then { sp with tx := if low then .ignored else .addressing } else sp := by
  obtain ⟨tx, page, snapshot, shift, fetchDue, read⟩ := sp
  cases cs <;> cases tx <;> simp [SerialPort.select]

theorem GuardUnit.tick_line (g : GuardUnit) (n : Fin 2) :
    let sampleCycle := decide ((g.clock.toNat + 1) % 65536 = 0)
    let l := g.lines.get n
    g.tick.lines.get n = { l with due :=
      if sampleCycle = true ∧ l.enabled = true then some { activeLevel := l.activeLevel, qual := l.qual }
      else none } := by
  simp only [GuardUnit.tick, Bank.get_map, GuardLine.tick, clock_wraps_iff, Bool.and_eq_true]

/-- What a cycle moves, counting or frozen, where `t` shares with `e.tick` all that a counting cycle does not move besides. -/
theorem State.tick_moves (e t : State) (pins : InputPins) (frozen : Bool)
    (h : t.cap = (e.tick pins frozen).cap ∧ t.outs = (e.tick pins frozen).outs ∧
      t.guard = (e.tick pins frozen).guard ∧ t.pins = (e.tick pins frozen).pins ∧ t.sp = (e.tick pins frozen).sp ∧
      t.cyc = { (e.tick pins frozen).cyc with
        wrapDue := t.cyc.wrapDue, slewEndDue := t.cyc.slewEndDue, offers := t.cyc.offers }) :
    t.cyc.frozen = frozen ∧
      (∀ n, t.cap.get n = (e.cap.get n).tick) ∧ (∀ n, t.outs.get n = (e.outs.get n).tick) ∧ t.guard = e.guard.tick ∧
      t.pins = { e.pins with now := pins, before := e.pins.now, sampled := e.pins.before } ∧
      t.sp = (if pins.csLow then e.sp.select e.resetLow else e.sp) ∧
      t.cyc.decided = false ∧ t.cyc.notices = [] ∧ t.cyc.action = none ∧ t.cyc.earlySkips = .fill 32 false := by
  obtain ⟨hcap, houts, hguard, hpins, hsp, hcyc⟩ := h
  rw [hcap, houts, hguard, hpins, hsp, hcyc]
  exact ⟨rfl, fun n => Bank.get_map _ _ _, fun n => Bank.get_map _ _ _, rfl, rfl, rfl, rfl, rfl, rfl, rfl⟩

/-- Settles O7: a counting cycle and a frozen one open with the same `State.tick`. -/
theorem everyCycleMovesTheCounts : Obligations.EveryCycleMovesTheCounts := by
  intro pins order s t frozen e sampleCycle hcount hexec
  have hlow : e.resetLow = s.resetLow := s.endCycle_frame.1
  have hopen : t = if frozen then e.beginFrozen pins else e.beginCounting pins order := by
    cases frozen with
    | false => exact (Host.Outcome.next.inj ((exec_countingCycle s pins order hcount).symm.trans hexec)).symm
    | true => exact (Host.Outcome.next.inj ((exec_frozenCycle s pins hcount).symm.trans hexec)).symm
  rw [← hlow]
  clear hexec hlow hcount
  clear_value e
  have hframe : t.sched = e.sched ∧ t.disp = e.disp ∧ t.trq = e.trq ∧ t.resetLow = e.resetLow := by
    rw [hopen]
    cases frozen <;> simp
  obtain ⟨hfrozen, hcap, houts, hguard, hpins, hsp, hrest⟩ := State.tick_moves e t pins frozen (by
    rw [hopen]
    cases frozen with
    | false =>
      obtain ⟨hcap, houts, hguard, hpins, hsp, hcyc⟩ := e.beginCounting_frame_tick pins order
      refine ⟨hcap, houts, hguard, hpins, hsp, ?_⟩
      rw [if_neg Bool.false_ne_true, hcyc]
    | true => exact ⟨rfl, rfl, rfl, rfl, rfl, rfl⟩)
  obtain ⟨hsched, hdisp, htrq, hreset⟩ := hframe
  obtain ⟨hdecided, hnotices, haction, hskips⟩ := hrest
  refine ⟨hfrozen, fun n => (hcap n).trans (CapLine.tick_eq _), fun n => (houts n).trans (OutLine.tick_eq _),
    fun n => (congrArg (fun g => g.lines.get n) hguard).trans (e.guard.tick_line n), ?_, ?_, ?_, hpins,
    hsp.trans (SerialPort.select_eq _ _ _), hdecided, hnotices, haction, hskips, hsched, hdisp, htrq, hreset⟩
  all_goals
    rw [hguard]
    rfl

/-! ## The advance -/

section
variable (tb : Timebase)

/-- The next cycle is trim-modified, in the terms of the rules (R11, R12). -/
def Timebase.Trimmed : Prop :=
  (tb.position + 1) * tb.inForce.magnitude.toNat / tb.inForce.window.cycles >
    (tb.position + 1 - 1) * tb.inForce.magnitude.toNat / tb.inForce.window.cycles

theorem Timebase.trimModified_iff : tb.trimModified = true ↔ tb.Trimmed := decide_eq_true_iff

theorem Timebase.trimTick_eq : tb.trimTick = if tb.trimModified then (if tb.inForce.negative then -1 else 1) else 0 := by
  unfold Timebase.trimTick
  split
  next h =>
    have hm : tb.inForce.magnitude.toNat ≠ 0 := by
      intro h0
      rw [Timebase.trimModified, h0] at h
      exact not_trimMarked_zero _ _ h
    unfold Trim.value tickToward
    cases tb.inForce.negative
    · rw [if_pos (by simp; omega)]
      rfl
    · rw [if_neg (by simp), if_pos (by simp; omega)]
      rfl
  next => rfl

theorem Timebase.advance_unslewed (h : tb.slewTick = 0) :
    tb.advance = if tb.trimModified then (if tb.inForce.negative then 0 else 2) else 1 := by
  rw [Timebase.advance, h, Timebase.trimTick_eq]
  cases tb.trimModified <;> cases tb.inForce.negative <;> rfl

end

theorem State.beginFrozen_holds (e : State) (pins : InputPins) :
    (e.beginFrozen pins).tb = e.tb ∧ (e.beginFrozen pins).cyc.frozen = true ∧
      (e.beginFrozen pins).cyc.wrapDue = false ∧ (e.beginFrozen pins).cyc.slewEndDue = none ∧
      (e.beginFrozen pins).cyc.offers = [] ∧ (e.beginFrozen pins).icu = e.icu := ⟨rfl, rfl, rfl, rfl, rfl, rfl⟩

theorem State.beginCounting_unslewed (e : State) (pins : InputPins) (order : EndOrder)
    (hends : e.tb.slewEnds = none) (hstill : e.tb.countedState = e.tb.state) :
    let t := e.beginCounting pins order
    t.tb = { e.tb with time := BitVec.ofNat 56 (e.tb.time.toNat + e.tb.advance), position := e.tb.position + 1 } ∧
      t.cyc.frozen = false ∧ t.cyc.wrapDue = decide (2 ^ 56 ≤ e.tb.time.toNat + e.tb.advance) ∧
      t.cyc.slewEndDue = none ∧ t.cyc.offers = [] ∧ t.icu = e.icu := by
  rw [State.beginCounting_plain pins order hends]
  refine ⟨?_, rfl, rfl, hends, rfl, rfl⟩
  rw [State.countOn, Timebase.countCycle, hstill]
  rfl

/-- Settles O8: a frozen cycle holds the timebase, and without a slew the trim alone changes the advance. -/
theorem cycleAddsTheAdvanceOrHolds : Obligations.CycleAddsTheAdvanceOrHolds := by
  intro pins order s e i n m advance
  refine ⟨fun h => ⟨_, exec_frozenCycle s pins ?frozen, e.beginFrozen_holds pins⟩, fun h => ?counting⟩
  case frozen =>
    rcases h with h | ⟨w, h, hw⟩
    · exact congrArg TbState.counting h
    · exact (congrArg TbState.counting h).trans (congrArg not hw)
  case counting =>
    have hstate : e.tb.state.counting = true ∧ e.tb.slewTick = 0 ∧ e.tb.slewEnds = none ∧ e.tb.countedState = e.tb.state := by
      clear_value e
      rcases h with h | ⟨w, h, hw⟩
      · simp [Timebase.slewTick, Timebase.slewEnds, Timebase.countedState, TbState.counting, h]
      · simp [Timebase.slewTick, Timebase.slewEnds, Timebase.countedState, TbState.counting, h, hw]
    obtain ⟨hcount, htick, hends, hstill⟩ := hstate
    have hadvance : e.tb.advance = advance :=
      (Timebase.advance_unslewed _ htick).trans (if_congr e.tb.trimModified_iff rfl rfl)
    refine ⟨_, exec_countingCycle s pins order hcount, ?_⟩
    rw [← hadvance]
    exact e.beginCounting_unslewed pins order hends hstill

theorem Slew.tickToward_remainder {sl : Slew} (h : sl.Ok) : tickToward sl.remainder = if 0 < sl.remainder then 1 else -1 := by
  unfold tickToward
  split
  · rfl
  · rw [if_pos (by obtain ⟨hr, -⟩ := h; omega)]

theorem Timebase.slewTick_slewing {tb : Timebase} {sl : Slew} (h : tb.state = .slewing sl) (hok : sl.Ok) :
    tb.slewTick = if sl.applies tb.trimModified then (if 0 < sl.remainder then 1 else -1) else 0 := by
  rw [Timebase.slewTick, h, ← Slew.tickToward_remainder hok]

/-- A trim-modified cycle applies no slew modification (R16). -/
theorem Timebase.advance_slewing {tb : Timebase} {sl : Slew} (h : tb.state = .slewing sl) (hok : sl.Ok) :
    tb.advance = (if tb.trimModified then (if tb.inForce.negative then 0 else 2)
      else if sl.applies tb.trimModified then 1 + (if 0 < sl.remainder then 1 else -1) else 1 : Int).toNat := by
  rw [Timebase.advance, Timebase.trimTick_eq, Timebase.slewTick_slewing h hok]
  cases tb.trimModified with
  | true =>
    simp only [Slew.applies, Bool.not_true, Bool.and_false]
    cases tb.inForce.negative <;> rfl
  | false => cases sl.applies false <;> rfl

/-- The state after a counting cycle of a slew (R15, R16, R32, R33). -/
theorem Timebase.countedState_slewing {tb : Timebase} {sl : Slew} (h : tb.state = .slewing sl) (hok : sl.Ok) :
    tb.countedState =
      let toward : Int := if 0 < sl.remainder then 1 else -1
      let remainder := if sl.applies tb.trimModified then sl.remainder - toward else sl.remainder
      if remainder = 0 then .slewEnding
      else .slewing { sl with count := sl.count + 1, remainder := remainder,
                              deferred := (sl.fallsDue || sl.deferred) && tb.trimModified } := by
  rw [Timebase.countedState, h]
  simp only [Slew.count1, Slew.tickToward_remainder hok]

theorem State.beginCounting_slewing (e : State) (pins : InputPins) (order : EndOrder) :
    let t := e.beginCounting pins order
    t.tb = e.tb.countCycle ∧ t.cyc.frozen = false ∧ t.cyc.wrapDue = decide (2 ^ 56 ≤ e.tb.counted) := by
  obtain ⟨-, -, -, -, -, hcyc⟩ := e.beginCounting_frame_tick pins order
  refine ⟨?_, congrArg Cycle.frozen hcyc, congrArg Cycle.wrapDue hcyc⟩
  rw [State.beginCounting_eq]
  split
  · rw [(State.offerSlewEnd_frame _).1]
    rfl
  · rfl

/-- Settles O9: the three rows of a slewing cycle begin the same cycle, whose advance is `Timebase.advance_slewing`. -/
theorem slewCycleAppliesOrDefers : Obligations.SlewCycleAppliesOrDefers := by
  intro pins order s sl e i n m trimmed due applied toward advance remainder hst hok
  have hcount : e.tb.state.counting = true := congrArg TbState.counting hst
  have hadvance : e.tb.advance = advance.toNat := Timebase.advance_slewing hst hok
  have hstate := Timebase.countedState_slewing hst hok
  obtain ⟨htb, hfrozen, hwrap⟩ := e.beginCounting_slewing pins order
  refine ⟨_, exec_countingCycle s pins order hcount, fun hdue => ?due, fun hdef hfree => ?deferred, ?_, hfrozen, ?_⟩
  case due =>
    have hrow : e.tb.modificationDue = true := by
      rw [Timebase.modificationDue, hst]
      exact hdue
    exact congrArg Host.Outcome.next (State.countingCycleIf_true s pins order Timebase.modificationDue hcount hrow)
  case deferred =>
    have hrow : e.tb.deferredApplies = true := by
      rw [Timebase.deferredApplies, hst]
      exact (congrArg₂ (fun a b => a && !b) hdef hfree).trans rfl
    exact congrArg Host.Outcome.next (State.countingCycleIf_true s pins order Timebase.deferredApplies hcount hrow)
  · rw [htb, Timebase.countCycle, hstate, Timebase.counted, hadvance]
    rfl
  · rw [hwrap, Timebase.counted, hadvance]

end Sys2Proof.Machine
end

section
/-! The end of a slew (R33), the end of a trim window (R13), and what a run of cycles does to an interval count (R45) and to a
pulse (R119). -/
namespace Sys2Proof.Machine

/-! ## The end of a slew -/

theorem Timebase.slewEnds_of_ending {tb : Timebase} {sl : Slew} (h : tb.state = .slewing sl)
    (hend : tb.countedState = .slewEnding) : tb.slewEnds = some sl.start := by
  rw [Timebase.slewEnds, h]
  rw [Timebase.countedState, h] at hend
  dsimp only at hend ⊢
  split at hend
  next hr => exact if_pos hr
  next => cases hend

section
variable {s : State}

theorem State.takeCapture_tb (n : Fin 6) (h : s.tb.state = .slewEnding) : (s.takeCapture n).tb = s.tb := by
  unfold State.takeCapture
  split
  · dsimp only
    split
    · rfl
    · unfold State.completeEdge
      split
      next h' => exact absurd (h.symm.trans h') (by simp)
      next => simp
  · rfl

theorem State.takeSamples_tb (h : s.tb.state = .slewEnding) : s.takeSamples.tb = s.tb := by
  have hfold : ∀ (ns : List (Fin 6)) (x : State), x.tb.state = .slewEnding →
      (ns.foldl (fun s n => s.takeCapture n) x).tb = x.tb := by
    intro ns
    induction ns with
    | nil => exact fun x _ => rfl
    | cons n ns ih =>
      intro x hx
      have hn := State.takeCapture_tb n hx
      exact (ih _ (hn ▸ hx)).trans hn
  have hguard : s.takeGuard.tb = s.tb := by simp
  exact (hfold _ _ (hguard ▸ h)).trans hguard

theorem State.takeWrap_tb_state (s : State) : s.takeWrap.tb.state = s.tb.state := by
  unfold State.takeWrap
  split <;> simp [State.applyWrap]

/-- From the cycle after its last modification a slew is over (R33). -/
theorem State.endCycle_slewEnding (h : s.tb.state = .slewEnding) : s.endCycle.tb.state = .running := by
  have hend : ∀ tb : Timebase, tb.state = .slewEnding → tb.endSlew.state = .running := fun tb htb => by
    rw [Timebase.endSlew, htb]
  have hsamples : s.takeSamples.takeWrap.tb.state = .slewEnding := by
    rw [State.takeWrap_tb_state, State.takeSamples_tb h, h]
  unfold State.endCycle
  simp only [State.setTb_tb]
  refine hend _ ?_
  simpa [State.endWindow, Timebase.endWindow_state] using hsamples

end

/-- A counting cycle that ends a slew, before its SLEW_END is taken (R33). -/
def State.awaitingSlewEnd (a : Int) (e t : State) : State :=
  { t with cyc := { t.cyc with slewEndDue := some a, offers := [] }, icu := e.icu }

theorem State.awaitingSlewEnd_eq (e : State) (pins : InputPins) (order : EndOrder) {a : Int} (h : e.tb.slewEnds = some a) :
    State.awaitingSlewEnd a e (e.beginCounting pins order) = e.countOn pins := by
  have hdue : (e.countOn pins).cyc.slewEndDue = some a := h
  rw [State.beginCounting_eq, State.awaitingSlewEnd, ← hdue]
  split
  · rw [State.offerSlewEnd_some hdue]
    rfl
  · rfl

theorem State.beginCounting_ending (e : State) (pins : InputPins) (order : EndOrder) {a : Int}
    (h : e.tb.slewEnds = some a) :
    let t := e.beginCounting pins order
    t = if order = .endFirst ∧ t.cyc.wrapDue = false then (State.awaitingSlewEnd a e t).offerSlewEnd
      else State.awaitingSlewEnd a e t := by
  intro t
  have hwrap : t.cyc.wrapDue = (e.countOn pins).cyc.wrapDue := (e.beginCounting_slewing pins order).2.2
  rw [hwrap, State.awaitingSlewEnd_eq e pins order h]
  exact State.beginCounting_eq pins order e

theorem State.counting_after_slewEnding {t : State} (pins : InputPins) (order : EndOrder) (h : t.tb.state = .slewEnding) :
    ∃ u, exec (.countingCycle ⟨pins, order⟩) t = .next u ∧ u.tb.state = .running := by
  have hrun := State.endCycle_slewEnding h
  refine ⟨_, exec_countingCycle t pins order (congrArg TbState.counting hrun), ?_⟩
  generalize t.endCycle = e at hrun
  rw [(e.beginCounting_slewing pins order).1, Timebase.countCycle, Timebase.countedState, hrun]

/-- Settles O10: the slew ends as the cycle opens, or waits; the end of the cycle makes it RUNNING. -/
theorem slewEndsWithItsLastModification : Obligations.SlewEndsWithItsLastModification := by
  intro pins pins' order order' s t sl e offered waiting hst hexec hend
  have hcount : e.tb.state.counting = true := congrArg TbState.counting hst
  have ht : t = e.beginCounting pins order :=
    Host.Outcome.next.inj (hexec.symm.trans (exec_countingCycle s pins order hcount))
  clear_value e
  refine ⟨?first, fun x hx => State.offerSlewEnd_some hx, State.counting_after_slewEnding pins' order' hend⟩
  have hends : e.tb.slewEnds = some sl.start := by
    refine Timebase.slewEnds_of_ending hst ?_
    rw [ht, (e.beginCounting_slewing pins order).1] at hend
    exact hend
  have hopen := e.beginCounting_ending pins order hends
  simp only [← ht] at hopen
  have hwaiting : waiting.offerSlewEnd = offered waiting := State.offerSlewEnd_some rfl
  exact hopen.trans (if_congr Iff.rfl hwaiting rfl)

/-! ## The end of a trim window -/

theorem Timebase.endWindow_of_full {tb : Timebase} (h : tb.inForce.window.cycles ≤ tb.position) :
    tb.endWindow = { tb with inForce := tb.written, trimPending := false, position := 0 } := if_pos h

/-- Settles O12. -/
theorem trimWindowEndTakesTheWrittenPair : Obligations.TrimWindowEndTakesTheWrittenPair := fun s h =>
  congrArg (fun tb => Host.Outcome.next (s.setTb tb)) (Timebase.endWindow_of_full h)

/-! ## The grid of samples -/

section
variable {l : CapLine}

theorem CapLine.tick_enabled_line (h : l.enabled = true) :
    l.tick = { l with
      due := decide (l.interval = 0)
      interval := BitVec.ofNat 7 ((l.interval.toNat + 1) % 2 ^ l.divisor.toNat) } := by
  rw [CapLine.tick_eq, if_pos h]

theorem two_pow_divisor_le (d : BitVec 3) : 2 ^ d.toNat ≤ 2 ^ 7 :=
  Nat.pow_le_pow_right (by decide) (by omega)

/-- The interval count after `k` cycles counts them modulo 2^d (R45). -/
theorem CapLine.iterate_tick (h : l.enabled = true) (hi : l.interval = 0) (k : Nat) :
    (CapLine.tick^[k] l).enabled = true ∧ (CapLine.tick^[k] l).divisor = l.divisor ∧
      (CapLine.tick^[k] l).interval.toNat = k % 2 ^ l.divisor.toNat := by
  induction k with
  | zero => exact ⟨h, rfl, by simp [hi]⟩
  | succ k ih =>
    obtain ⟨hen, hdiv, hint⟩ := ih
    rw [Function.iterate_succ_apply', CapLine.tick_enabled_line hen]
    refine ⟨hen, hdiv, ?_⟩
    have hlt : (k + 1) % 2 ^ l.divisor.toNat < 2 ^ 7 :=
      (Nat.mod_lt _ (Nat.two_pow_pos _)).trans_le (two_pow_divisor_le _)
    simp only [hdiv, hint, Nat.mod_add_mod, BitVec.toNat_ofNat, Nat.mod_eq_of_lt hlt]

end

/-- Settles O25: the sample falls due where the interval count before the cycle is 0. -/
theorem samplesFallOnTheGrid : Obligations.SamplesFallOnTheGrid := by
  intro l k h hi
  obtain ⟨hen, -, hint⟩ := CapLine.iterate_tick h hi k
  rw [Function.iterate_succ_apply', CapLine.tick_enabled_line hen, decide_eq_true_iff, ← hint,
    ← BitVec.toNat_inj]
  rfl

/-! ## The width of a pulse -/

section
variable {l : OutLine} {p : Pulse}

theorem OutLine.endPulse_last (hp : l.pulse = some p) (hr : p.remaining = 0) :
    l.endPulse = { l with level := l.idle, pulse := none } := by
  rw [OutLine.endPulse, hp]
  exact if_pos hr

theorem OutLine.endPulse_running (hp : l.pulse = some p) (hr : p.remaining ≠ 0) : l.endPulse = l := by
  rw [OutLine.endPulse, hp]
  exact if_neg hr

end

/-- A line in a pulse with `c` cycles left (R118). -/
def OutLine.inPulse (l : OutLine) (c : Nat) : OutLine :=
  { l with level := l.idle.inverse, pulse := some { remaining := BitVec.ofNat 24 c, active := l.idle.inverse } }

/-- One cycle of a pulse: it counts, or ends with its last cycle (R119). -/
theorem OutLine.inPulse_cycle (l : OutLine) {c : Nat} (hc : c < 2 ^ 24) (hpos : 1 ≤ c) :
    (l.inPulse c).tick.endPulse = if 1 < c then l.inPulse (c - 1) else { l with level := l.idle, pulse := none } := by
  have hcount : BitVec.ofNat 24 c - 1 = BitVec.ofNat 24 (c - 1) := by
    exact BitVec.ofNat_sub_ofNat_of_le c 1 (by decide) hpos
  have htick : (l.inPulse c).tick = l.inPulse (c - 1) := by
    rw [OutLine.tick_eq, OutLine.inPulse, OutLine.inPulse, ← hcount]
    rfl
  rw [htick]
  split
  next h =>
    refine OutLine.endPulse_running rfl fun h0 => ?_
    have hzero : (c - 1) % 2 ^ 24 = 0 := congrArg BitVec.toNat h0
    omega
  next h =>
    have h1 : c = 1 := by omega
    subst h1
    exact OutLine.endPulse_last rfl rfl

/-- Settles O37, by induction on the number of cycles. -/
theorem pulseLastsItsWidth : Obligations.PulseLastsItsWidth := by
  refine ⟨fun l w j hw hj => ?_, fun n s p hp hr => ?_⟩
  · have hstart : l.startPulse w = l.inPulse w.toNat := by
      rw [OutLine.inPulse, BitVec.ofNat_toNat, BitVec.setWidth_eq]
      rfl
    have hrun : ∀ j < w.toNat, (fun x : OutLine => x.tick.endPulse)^[j] (l.startPulse w) = l.inPulse (w.toNat - j) := by
      intro j
      induction j with
      | zero => exact fun _ => hstart
      | succ j ih =>
        intro hj
        rw [Function.iterate_succ_apply', ih (by omega), OutLine.inPulse_cycle l (by omega) (by omega), if_pos (by omega)]
        rfl
    split
    next h => exact hrun j h
    next h =>
      obtain ⟨k, rfl⟩ : ∃ k, j = k + 1 := ⟨j - 1, by omega⟩
      rw [Function.iterate_succ_apply', hrun k (by omega), OutLine.inPulse_cycle l (by omega) (by omega),
        if_neg (by omega)]
  · refine congrArg Host.Outcome.next ?_
    rw [State.endPulse, Bank.modify, OutLine.endPulse_last hp hr]
    rfl

end Sys2Proof.Machine
end

section
/-! The wrap (R17) and the commands of the timebase (R7, R8, R25 to R31, R36, R40). -/
namespace Sys2Proof.Machine

/-! ## The wrap -/

section
variable {s : State}

/-- The state with the WRAP record offered and the notice given (R17, R23). -/
def State.wrapped (s : State) : State :=
  { s with
    tb := { s.tb with epoch := s.tb.epoch + 1 }
    cyc := { s.cyc with
      wrapDue := false
      offers := insertOffer { time := s.tb.time, epoch := s.tb.epoch + 1, body := .step .wrap false 0 } s.cyc.offers
      notices := s.cyc.notices ++ [{ epoch := s.tb.epoch + 1, time := s.tb.time, sweep := false }] }
    icu := { s.icu with flags := { s.icu.flags with tbevt := s.icu.flags.tbevt || !s.resetLow } } }

theorem State.applyWrap_eq (s : State) : s.applyWrap = s.wrapped.offerSlewEnd := by
  unfold State.applyWrap
  dsimp only
  rw [State.raise_tbevt]
  rfl

theorem State.takeNotices_silent {x : Notice} (hn : s.cyc.notices = [x]) (hx : x.sweep = false) :
    s.takeNotices = { s with
      cyc := { s.cyc with notices := [], earlySkips := .fill 32 false }
      sched := { s.sched with entries := s.overtake.sched.entries.map fun e => e.stale.unmark x.time } } := by
  rw [State.takeNotices_one s x hn, State.takeNotice_eq]
  simp only [hx, Bool.false_eq_true, false_and, if_false]
  rfl

/-- The records and the notice of a wrap (R17, R23, R33). -/
theorem State.applyWrap_takeNotices (hn : s.cyc.notices = []) :
    s.applyWrap.takeNotices =
      let record (b : Body) : Offer := { time := s.tb.time, epoch := s.tb.epoch + 1, body := b }
      let wrapped := insertOffer (record (.step .wrap false 0)) s.cyc.offers
      { s with
        tb := { s.tb with epoch := s.tb.epoch + 1 }
        cyc := { s.cyc with
          wrapDue := false
          slewEndDue := none
          earlySkips := .fill 32 false
          offers := match s.cyc.slewEndDue with
            | none => wrapped
            | some amount => insertOffer (record (.step .slewEnd false amount)) wrapped }
        icu := { s.icu with flags := { s.icu.flags with tbevt := s.icu.flags.tbevt || !s.resetLow } }
        sched := { s.sched with entries := s.overtake.sched.entries.map fun x => x.stale.unmark s.tb.time } } := by
  have hgiven : s.wrapped.offerSlewEnd.cyc.notices = [{ epoch := s.tb.epoch + 1, time := s.tb.time, sweep := false }] := by
    rw [State.offerSlewEnd_cyc]
    exact congrArg (· ++ _) hn
  have hflag : ∀ b : Bool, (b || !s.resetLow || !s.resetLow) = (b || !s.resetLow) := fun b => by
    rw [Bool.or_assoc, Bool.or_self]
  rw [State.applyWrap_eq, State.takeNotices_silent hgiven rfl]
  cases hs : s.cyc.slewEndDue with
  | none =>
    rw [State.offerSlewEnd_none s.wrapped hs]
    simp only [← hn, ← hs]
    rfl
  | some a =>
    rw [State.offerSlewEnd_some (show s.wrapped.cyc.slewEndDue = some a from hs)]
    simp only [← hn, State.wrapped, hflag]
    rfl

/-- Settles O14. -/
theorem wrapChangesTheEpoch : Obligations.WrapChangesTheEpoch := by
  intro s hw hn record wrapped
  refine ⟨fun hedge => ?wraps, fun ⟨n, ha, hc⟩ => ?load⟩
  case wraps =>
    have hwraps : s.wraps = true := by simp [State.wraps, hw, State.edgeLoadDue_eq_none hedge]
    have htake : s.takeWrap = s.applyWrap.takeNotices := by simp [State.takeWrap, hwraps]
    exact ⟨s.presented_wraps hwraps, congrArg Host.Outcome.next (htake.trans (State.applyWrap_takeNotices hn))⟩
  case load =>
    obtain ⟨w, hdue, -⟩ := State.edgeLoadDue_of_awaited ha hc
    exact congrArg Host.Outcome.next (s.takeWrap_nothing (by simp [State.wraps, hdue]) hn)

end

/-! ## The commands of the timebase -/

section
variable {s : State} {arg : Byte} {st : TbState}

theorem exec_of_command {i : Instr} {t : State} {strobe : Byte} {owner : State → State × ResultCode} {code : ResultCode}
    (hi : exec i s = .next (s.command strobe owner)) (hs : s.takesBytes = true) (ho : owner s = (t, code))
    (ht : t.resetLow = s.resetLow) : exec i s = .next (t.answered strobe code) :=
  hi.trans (congrArg Host.Outcome.next (State.command_of_owner hs ho ht))

theorem State.takeWrap_resetLow (s : State) : s.takeWrap.resetLow = s.resetLow := by simp

end

/-- Settles O15: each command by the state of the timebase. -/
theorem startSlewAndCancelEdgeByState : Obligations.StartSlewAndCancelEdgeByState := by
  intro arg s hs v amount slew
  refine ⟨?start, ?cancel, ?slew⟩
  case start =>
    cases h : s.tb.state with
    | running | slewing | slewEnding | awaitEdge => exact exec_of_command rfl hs (by rw [State.tbStart, h]) rfl
    | stopped =>
      exact exec_of_command rfl hs (by rw [State.tbStart, h]; rfl) rfl
  case cancel =>
    cases h : s.tb.state with
    | stopped | running | slewing | slewEnding => exact exec_of_command rfl hs (by rw [State.tbCancelEdge, h]) rfl
    | awaitEdge =>
      exact exec_of_command rfl hs (by rw [State.tbCancelEdge, h]; rfl) rfl
  case slew =>
    cases h : s.tb.state with
    | stopped | slewing | slewEnding | awaitEdge =>
      exact exec_of_command rfl hs (by rw [State.tbSlew, h]) rfl
    | running =>
      have hfield : (v = 0 ∨ Config.amountBound < v) ↔ ¬(1 ≤ v ∧ v ≤ 8388607) := by
        rw [Config.amountBound]
        omega
      have hrun : State.tbSlew s = if v = 0 ∨ Config.amountBound < v then (s, .badField)
          else ({ s with tb := { s.tb with state := .slewing slew } }, .ok) := by
        rw [State.tbSlew, h]
        rfl
      by_cases hv : 1 ≤ v ∧ v ≤ 8388607
      · simp only [if_pos hv]
        exact exec_of_command rfl hs (hrun.trans (if_neg fun hb => hfield.1 hb hv)) rfl
      · simp only [if_neg hv]
        exact exec_of_command rfl hs (hrun.trans (if_pos (hfield.2 hv))) rfl

/-- Settles O16. -/
theorem stopByState : Obligations.StopByState := by
  intro arg s hs b cancel
  cases h : s.tb.state with
  | stopped | awaitEdge => exact exec_of_command rfl hs (by rw [State.tbStop, h]) rfl
  | running | slewEnding =>
    exact exec_of_command rfl hs (by rw [State.tbStop, h]; rfl) rfl
  | slewing sl => exact exec_of_command rfl hs (by rw [State.tbStop, h]; rfl) s.takeWrap_resetLow

/-- A load or a jump that passes its checks, with its notice in either order (R24, R102). -/
theorem exec_of_orderNotice {i : Instr} {s t : State} {strobe : Byte} {owner : State → State × ResultCode}
    (order : NoticeOrder) (hi : exec i s = .next (s.command strobe owner)) (hs : s.takesBytes = true)
    (ho : owner s = (t.orderNotice order, .ok)) (ht : t.resetLow = s.resetLow) :
    exec i s = .next ((t.orderNotice order).answered strobe .ok) :=
  exec_of_command hi hs ho (by simp [ht])

/-- The state after a load of the staged time into `c`, before the notice is taken (R25). -/
def State.loaded (st : TbState) (s c : State) : State :=
  { c with
    tb := { c.tb with time := s.tb.staged.value, epoch := s.tb.epoch + 1, state := st }
    cyc := { c.cyc with
      wrapDue := false
      offers := insertOffer
        { time := s.tb.staged.value, epoch := s.tb.epoch + 1, body := .step .load false 0 } c.cyc.offers
      notices := c.cyc.notices ++ [{ epoch := s.tb.epoch + 1, time := s.tb.staged.value, sweep := true }] } }

theorem State.load_eq {s c : State} {st : TbState} (he : c.tb.epoch = s.tb.epoch) (hst : c.tb.state = st) :
    (c.stepTime s.tb.staged.value .load false 0).giveNotice true = State.loaded st s c := by
  subst hst
  rw [State.stepTime_eq, State.giveNotice_eq, he]
  rfl

/-- Settles O17: the load by the state of the timebase, each of which leaves its own state before the step. -/
theorem loadReplacesTheTime : Obligations.LoadReplacesTheTime := by
  intro arg order s hs
  have hload : ∀ {st c}, (∀ w, s.tb.state ≠ .awaitEdge w) → s.cancelSlew = c → c.tb.epoch = s.tb.epoch → c.tb.state = st →
      c.resetLow = s.resetLow →
      exec (.tbLoad arg order) s = .next (((State.loaded st s c).orderNotice order).answered 0x6A .ok) := by
    intro st c hst hc he hcst hr
    refine exec_of_orderNotice order rfl hs ?_ hr
    rw [State.tbLoad]
    split
    next w hw => exact absurd hw (hst w)
    next => rw [hc, State.load_eq he hcst]
  cases h : s.tb.state with
  | awaitEdge w =>
    have ha : s.tb.awaited = some w.line := by rw [Timebase.awaited, h]
    intro cancel c v load t
    rw [ha]
    exact exec_of_command rfl hs (by rw [State.tbLoad, h]) rfl
  | stopped | running =>
    have ha : s.tb.awaited = none := by rw [Timebase.awaited, h]
    intro cancel c v load t
    rw [ha]
    refine (hload (by simp [h]) (by rw [State.cancelSlew, h]) rfl h rfl).trans ?_
    cases order <;> rfl
  | slewing sl =>
    have ha : s.tb.awaited = none := by rw [Timebase.awaited, h]
    intro cancel c v load t
    rw [ha]
    have hcancel : s.cancelSlew = (s.offerStep .slewCancel false sl.remainder).setTbState .running := by
      rw [State.cancelSlew, h]
    refine (hload (by simp [h]) hcancel rfl rfl rfl).trans ?_
    cases order <;> rfl
  | slewEnding =>
    have ha : s.tb.awaited = none := by rw [Timebase.awaited, h]
    intro cancel c v load t
    rw [ha]
    have hcancel : s.cancelSlew = s.offerSlewEnd.setTbState .running := by rw [State.cancelSlew, h]
    refine (hload (by simp [h]) hcancel (by simp [State.setTbState]) rfl (by simp [State.setTbState])).trans ?_
    cases order <;> rfl

theorem BitVec.ofInt_eq_ofNat_toNat {n : Nat} {x : Int} (h : 0 ≤ x) : BitVec.ofInt n x = BitVec.ofNat n x.toNat := by
  obtain ⟨k, rfl⟩ := Int.eq_ofNat_of_zero_le h
  exact BitVec.ofInt_natCast n k

/-- Settles O18: the jump by the state of the timebase and the range of its value. -/
theorem jumpAddsTheStagedAmount : Obligations.JumpAddsTheStagedAmount := by
  intro arg order s hs staged amount value v jump t
  by_cases hst : s.tb.state = .stopped ∨ s.tb.state = .running
  case neg =>
    rw [if_neg hst]
    obtain ⟨hstop, hrun⟩ := not_or.1 hst
    refine exec_of_command rfl hs ?_ rfl
    rw [State.tbJump]
    cases h : s.tb.state with
    | stopped => exact absurd h hstop
    | running => exact absurd h hrun
    | slewing | slewEnding | awaitEdge => rfl
  case pos =>
    rw [if_pos hst]
    have howner : State.tbJump order s =
        if value < 0 ∨ (Config.timeModulus : Int) ≤ value then (s, .badField)
        else (((s.stepTime (BitVec.ofInt 56 value) .jump (decide (amount < 0)) (clipAmount amount)).giveNotice
          true).orderNotice order, .ok) := by
      rw [State.tbJump]
      rcases hst with h | h <;> rw [h] <;> rfl
    by_cases hv : value < 0 ∨ 2 ^ 56 ≤ value
    · rw [if_pos hv]
      exact exec_of_command rfl hs (howner.trans (if_pos hv)) rfl
    · rw [if_neg hv]
      have hvalue : BitVec.ofInt 56 value = v := BitVec.ofInt_eq_ofNat_toNat (by omega)
      have hjump : State.tbJump order s = (t.orderNotice order, .ok) := (howner.trans (if_neg hv)).trans (by
        rw [hvalue]
        rfl)
      refine (exec_of_orderNotice order rfl hs hjump rfl).trans ?_
      cases order <;> rfl

/-- Settles O20. -/
theorem loadEdgeWaitsForTheLine : Obligations.LoadEdgeWaitsForTheLine := by
  intro arg s hs wait
  by_cases hst : s.tb.state = .stopped ∨ s.tb.state = .running
  case neg =>
    rw [if_neg hst]
    obtain ⟨hstop, hrun⟩ := not_or.1 hst
    refine exec_of_command rfl hs ?_ rfl
    rw [State.tbLoadEdge]
    cases h : s.tb.state with
    | stopped => exact absurd h hstop
    | running => exact absurd h hrun
    | slewing | slewEnding | awaitEdge => rfl
  case pos =>
    have howner : State.tbLoadEdge arg s = State.startEdgeLoad (decide (s.tb.state = .stopped)) arg s := by
      rw [State.tbLoadEdge]
      rcases hst with h | h <;> rw [h] <;> rfl
    rw [if_pos hst]
    split
    next h =>
      have hline : State.startEdgeLoad (decide (s.tb.state = .stopped)) arg s =
          if !(s.cap.get ⟨arg.toNat, h⟩).enabled then (s, .badState)
          else if Config.edgeLoadBound < s.tb.staged.value.toNat then (s, .badField)
          else ({ s with tb := { s.tb with state := .awaitEdge (wait ⟨arg.toNat, h⟩) } }, .ok) := by
        rw [State.startEdgeLoad, indexOf_of_lt h]
        rfl
      rw [hline] at howner
      split
      next hen => exact exec_of_command rfl hs (howner.trans (if_pos (by simp [hen]))) rfl
      next hen =>
        have hrest := howner.trans (if_neg (by simpa using hen))
        split
        next hb => exact exec_of_command rfl hs (hrest.trans (if_pos hb)) rfl
        next hb => exact exec_of_command rfl hs (hrest.trans (if_neg hb)) rfl
    next h =>
      refine exec_of_command rfl hs (howner.trans ?_) rfl
      rw [State.startEdgeLoad, indexOf_eq_none_iff.2 (not_lt.1 h)]

end Sys2Proof.Machine
end

section
/-! The step and the resets (R19, R20, R58 to R60, R81 to R83, R109 to R111, R124 to R126, R144 to R146, R158 to R160, R167 to R170,
R178). -/
namespace Sys2Proof.Machine

/-- Settles O1. -/
theorem stepTakesFrontCommandOrIdles : Obligations.StepTakesFrontCommandOrIdles := by
  refine ⟨fun c rest s h => ?_, fun s h => ?_⟩
  · rw [step, h]
    rfl
  · rw [step, h]

/-! ## Power-on -/

theorem State.powerOnValues_reset (p : List Instr) (f : Nat) : ((State.reset.setPending p).setFresh f).PowerOnValues := by
  have hcount : dueCount (Bank.fill 32 Entry.free) = 0 := by decide
  have hhead : dueHead (Bank.fill 32 Entry.free) = none := by decide
  have hcap : ∀ n, (Bank.fill 6 CapLine.reset).get n = CapLine.reset := fun n => Bank.get_fill _ n
  have hguard : ∀ n, GuardUnit.reset.lines.get n = _ := fun n => Bank.get_fill _ n
  refine ⟨⟨rfl, rfl, rfl, rfl, rfl, rfl, rfl, rfl, rfl, rfl, rfl⟩, fun n => ?_, ⟨fun n => Bank.get_fill _ n, rfl, rfl⟩,
    ⟨rfl, hcount, hhead⟩, fun n => ⟨Bank.get_fill _ n, Bank.get_fill _ n⟩, ⟨rfl, rfl⟩,
    ⟨rfl, rfl, fun n => Bank.get_fill _ n, fun n => hguard n⟩, ⟨rfl, rfl⟩, ⟨rfl, rfl, rfl, rfl⟩⟩
  intro l
  have hl : l = CapLine.reset := hcap n
  rw [hl]
  exact ⟨rfl, rfl, rfl, rfl, rfl, rfl, rfl, rfl, rfl, rfl, rfl⟩

/-- Settles O3. -/
theorem powerOnSetsEveryBlock : Obligations.PowerOnSetsEveryBlock :=
  ⟨State.powerOnValues_reset [] 0, fun s => ⟨_, rfl, State.powerOnValues_reset s.pending s.fresh, rfl⟩⟩

/-! ## What the port and a waiting action leave of the state -/

theorem State.takeOffers_icu (os : List Offer) (s : State) :
    (os.foldl State.takeOffer s).icu = { s.icu with flags := (os.foldl State.takeOffer s).icu.flags } := by
  induction os generalizing s with
  | nil => rfl
  | cons o os ih =>
    rw [List.foldl_cons, ih, State.takeOffer_eq]

theorem State.takeOffers_icu_low (os : List Offer) {s : State} (h : s.resetLow = true) :
    (os.foldl State.takeOffer s).icu = s.icu := by
  induction os generalizing s with
  | nil => rfl
  | cons o os ih =>
    rw [List.foldl_cons, ih (by simp [h]), State.takeOffer_eq]
    simp [h]

theorem State.drainReady_icu (s : State) : s.drainReady.icu = { s.icu with flags := s.drainReady.icu.flags } :=
  State.takeOffers_icu _ _

theorem State.offersBeforeReset_keeps (order : ResetOrder) (s : State) :
    let b := s.offersBeforeReset order
    b.tb = s.tb ∧ b.cap = s.cap ∧ b.sched = s.sched ∧ b.disp = s.disp ∧ b.outs = s.outs ∧ b.guard = s.guard ∧
      b.icu = { s.icu with flags := b.icu.flags } ∧ b.sp = s.sp ∧ b.pins = s.pins ∧ b.resetLow = s.resetLow := by
  cases order with
  | offersFirst =>
    simp only [State.offersBeforeReset, State.drainReady_frame, true_and, and_true]
    exact s.drainReady_icu
  | resetFirst => exact ⟨rfl, rfl, rfl, rfl, rfl, rfl, rfl, rfl, rfl, rfl⟩

theorem Deed.act_idle (d : Deed) (outs : Bank OutLine 8) (n : Fin 8) :
    ((d.act outs).get n).idle = (outs.get n).idle := by
  cases d with
  | none => rfl
  | set i | clear i | toggle i | pulse i w =>
    simp only [Deed.act, Bank.get_modify]
    split <;> rfl

theorem State.deliverAction_idle (s : State) (n : Fin 8) : (s.deliverAction.outs.get n).idle = (s.outs.get n).idle := by
  unfold State.deliverAction
  split
  · rfl
  · unfold State.takeAction
    split
    · rfl
    · exact Deed.act_idle _ _ n

/-! ## SOFT_RESET and PIN_RESET -/

/-- What a soft reset sets in the state that it finds (R83, R111, R126, R146, R168). -/
def State.cleared (b : State) : State :=
  { b with
    sched := { b.sched with entries := .fill 32 .free, view := { index := 0, entry := .free } }
    disp := { b.disp with holdHost := false, fault := .none }
    outs := b.outs.map (OutLine.softReset b.guard.tripped)
    trq := { b.trq with records := [] }
    icu := { b.icu with flags := .clear } }

theorem State.softReset_eq (order : ResetOrder) (s : State) :
    State.softReset order s = ((s.offersBeforeReset order).deliverAction.cleared, .ok) := rfl

/-- Settles O4: what comes before the reset reaches the queue, the output lines and the flags alone. -/
theorem softResetLeavesTimeInputsAndProtection : Obligations.SoftResetLeavesTimeInputsAndProtection := by
  intro arg order s hs b
  have hb : b = (s.offersBeforeReset order).deliverAction := rfl
  have hframe : b.tb = s.tb ∧ b.cap = s.cap ∧ b.sched = s.sched ∧ b.disp = s.disp ∧ b.guard = s.guard ∧
      b.icu = { s.icu with flags := b.icu.flags } ∧ b.sp = s.sp ∧ b.pins = s.pins ∧ b.resetLow = s.resetLow ∧
      ∀ n, (b.outs.get n).idle = (s.outs.get n).idle := by
    obtain ⟨htb, hcap, hsched, hdisp, houts, hguard, hicu, hsp, hpins, hlow⟩ := s.offersBeforeReset_keeps order
    simp only [hb, State.deliverAction_frame, State.deliverAction_idle]
    exact ⟨htb, hcap, hsched, hdisp, hguard, hicu, hsp, hpins, hlow, fun n => by rw [houts]⟩
  obtain ⟨htb, hcap, hsched, hdisp, hguard, hicu, hsp, hpins, hlow, hidle⟩ := hframe
  have hstep : exec (.softReset ⟨arg, order⟩) s = .next (b.cleared.answered 0x7C .ok) :=
    exec_of_command rfl hs (hb ▸ State.softReset_eq order s) hlow
  clear_value b
  clear hb
  refine ⟨_, hstep, fun n => Bank.get_fill _ n, rfl, ?_, ?_, fun n => ?_, rfl, rfl, ?_, htb, hcap, hguard, hsp, hpins⟩
  · rw [← hsched]
    rfl
  · exact congrArg (fun d : Dispatcher => { d with holdHost := false, fault := .none }) hdisp
  · refine (Bank.get_map _ _ n).trans ?_
    rw [← hguard, ← hidle n]
    rfl
  · exact congrArg (fun i : Interrupts => { i with flags := .clear, result := { strobe := 0x7C, code := .ok } }) hicu

/-- Settles O5. -/
theorem pinResetKeepsTimeAndGuard : Obligations.PinResetKeepsTimeAndGuard := by
  intro s hlow b
  have hguard : b.guard = s.guard := by simp [b]
  have htb : b.tb = s.tb := by simp [b]
  have hdisp : b.disp = s.disp := by simp [b]
  have hsp : b.sp = s.sp := by simp [b]
  have hpins : b.pins = s.pins := by simp [b]
  refine ⟨s.pinReset, congrArg Host.Outcome.next (if_neg (by simp [hlow])), rfl, ?_, fun n => Bank.get_fill _ n,
    fun n => Bank.get_fill _ n, rfl, rfl, ?_, fun n => ?_, rfl, hguard, rfl, rfl, hpins, rfl, rfl, ?_⟩
  · refine (congrArg Timebase.pinReset htb).trans ?_
    unfold Timebase.pinReset
    cases s.tb.state <;> rfl
  · exact congrArg (fun d : Dispatcher => { d with holdHost := false, fault := .none }) hdisp
  · refine (Bank.get_ofFn _ n).trans ?_
    rw [← hguard]
    rfl
  · refine (congrArg (fun sp : SerialPort => sp.tx.pinReset) hsp).trans ?_
    cases s.sp.tx <;> rfl

/-! ## Data bytes while the port takes none, and the rise of RESET_N -/

theorem State.takesBytes_eq_false {s : State}
    (h : s.resetLow = true ∨ s.sp.tx = .ignored ∨ ∃ p src, s.sp.tx = .reading p src) : s.takesBytes = false := by
  unfold State.takesBytes
  rcases h with h | h | ⟨p, src, h⟩ <;> simp [h]

theorem exec_dataByte_ignored {c : Instr} {s : State} (hc : c.isDataByte = true) (hs : s.takesBytes = false) :
    exec c s = .next s := by
  cases c with
  | tbStart | tbStop | tbLoad | tbJump | tbSlew | tbLoadEdge | tbCancelEdge | schArm | schPark | schCancel | schCancelAll
  | schFree | schView | schHold | schResume | outSet | outClear | qPop | qFlush | grdRelease | softReset =>
    exact congrArg Host.Outcome.next (State.command_ignored _ _ s hs)
  | captureEnable | captureDisable | samplingRestart | captureConfigWrite | guardEnable | guardDisable | guardReconfig
  | trimWrite | slewRateWrite | safeLevelWrite | modeWrite | idleLevelWrite | queueConfigWrite =>
    exact congrArg Host.Outcome.next (State.writePaged_ignored _ _ _ s hs)
  | pendingClear | enableWrite | pageSelectWrite | registerWrite =>
    exact congrArg Host.Outcome.next (State.writeAt_ignored _ _ s hs)
  | countingCycle | frozenCycle | slewModification | deferredSlewModification | trimWindowEnd | wrap | captureSample
  | guardSample | dispatch | pulseEnd | timeSnapshot | headLatch | transactionEnd | addressByte | readDataByte
  | powerOnReset | pinReset | pinResetRelease => cases hc

section
variable {s : State}

theorem State.activate_icu_low (n : Fin 2) (h : s.resetLow = true) : (s.activate n).icu = s.icu := by
  unfold State.activate
  dsimp only
  rw [State.raise_low]
  · split <;> simp [State.trip, State.offer]
  · split <;> simp [State.trip, State.offer, h]

theorem State.sampleGuard_icu_low (n : Fin 2) (h : s.resetLow = true) : (s.sampleGuard n).icu = s.icu := by
  unfold State.sampleGuard
  dsimp only
  split
  · split
    · exact State.activate_icu_low n h
    · rfl
  · rfl

theorem State.takeGuard_icu_low (h : s.resetLow = true) : s.takeGuard.icu = s.icu := by
  unfold State.takeGuard
  split
  · simp only [State.deliverAction_frame]
    exact (State.sampleGuard_icu_low 1 (by simp [h])).trans (State.sampleGuard_icu_low 0 h)
  · rfl

theorem State.drainInReset_keeps (h : s.resetLow = true) :
    let b := s.drainInReset
    b.icu = s.icu ∧ b.tb = s.tb := by
  unfold State.drainInReset
  dsimp only
  split
  · exact ⟨rfl, rfl⟩
  · exact ⟨(State.takeOffers_icu_low _ (by simp [h])).trans (State.takeGuard_icu_low h), by simp⟩

theorem State.raiseIf_tbevt (b : Bool) (s : State) :
    s.raiseIf b .tbevt = { s with
      icu := { s.icu with flags := { s.icu.flags with tbevt := s.icu.flags.tbevt || (b && !s.resetLow) } } } := by
  cases b with
  | false => simp
  | true =>
    rw [State.raiseIf_true, State.raise_tbevt]
    rfl

theorem State.raiseIf_gtrip (b : Bool) (s : State) :
    s.raiseIf b .gtrip = { s with
      icu := { s.icu with flags := { s.icu.flags with gtrip := s.icu.flags.gtrip || (b && !s.resetLow) } } } := by
  cases b with
  | false => simp
  | true =>
    rw [State.raiseIf_true, State.raise_gtrip]
    rfl

theorem State.pinResetRelease_eq (h : s.resetLow = true) :
    let b := s.drainInReset
    s.pinResetRelease = { b with
      resetLow := false
      tb := { s.tb with cancelOwed := false }
      icu := { s.icu with flags := { s.icu.flags with
        tbevt := s.icu.flags.tbevt || s.tb.cancelOwed
        gtrip := s.icu.flags.gtrip || b.guard.tripped } } } := by
  obtain ⟨hicu, htb⟩ := State.drainInReset_keeps h
  intro b
  unfold State.pinResetRelease
  dsimp only
  rw [State.raiseIf_gtrip, State.raiseIf_tbevt, ← hicu, ← htb]
  simp only [State.setResetLow, Bool.not_false, Bool.and_true]
  rfl

end

/-- Settles O6: the port in reset, and the flags that are owed. -/
theorem portIdlesInResetAndFlagsAreOwed : Obligations.PortIdlesInResetAndFlagsAreOwed := by
  refine ⟨fun c s hc h => exec_dataByte_ignored hc (State.takesBytes_eq_false h), ?_⟩
  intro s h ignored b
  have hbyte : ∀ x, s.addressByte x = ignored := fun x => if_pos h
  refine ⟨fun x => congrArg Host.Outcome.next (hbyte x), fun o => congrArg Host.Outcome.next (hbyte _),
    fun o => congrArg Host.Outcome.next (hbyte _), congrArg Host.Outcome.next (if_pos h), ?_⟩
  have hb : b = s.drainInReset := by
    unfold State.drainInReset
    exact if_congr List.isEmpty_iff.symm rfl rfl
  have hrelease : exec .pinResetRelease s = .next s.pinResetRelease := congrArg Host.Outcome.next (if_pos h)
  rw [hrelease, State.pinResetRelease_eq h, hb]

end Sys2Proof.Machine
end

section
/-! Capture samples and completed edges (R38, R39, R46 to R53). -/
namespace Sys2Proof.Machine

/-! ## One sample of a line -/

section
variable {l : CapLine} {v q : Level} {t : Ticks} {e : Epoch} {f : Bool}

/-- The run of a line, or the empty one at the level that a sample reads in a cycle of the given time (R46). -/
def CapLine.runFrom (v : Level) (t : Ticks) (e : Epoch) (f : Bool) (l : CapLine) : Run :=
  l.run.getD { candidate := v, time := t, epoch := e, frozen := f, count := 0 }

theorem CapLine.sample_unset (h : l.level = none) : l.sample v t e f = ({ l with level := some v, run := none }, none) := by
  rw [CapLine.sample, h]

theorem CapLine.sample_same (h : l.level = some v) : l.sample v t e f = ({ l with run := none }, none) := by
  rw [CapLine.sample, h]
  cases hr : l.run with
  | none => simp [← hr, ← h]
  | some r => simp

theorem CapLine.Ok.run_candidate (hok : l.Ok) (h : l.level = some q) (hv : v ≠ q) :
    (l.runFrom v t e f).candidate = v := by
  unfold CapLine.runFrom
  cases hr : l.run with
  | none => rfl
  | some r =>
    obtain ⟨hl, -, -⟩ := hok.2.2 r hr
    rw [h] at hl
    have hq := Option.some.inj hl
    revert hq hv
    change v ≠ q → q = r.candidate.inverse → r.candidate = v
    cases v <;> cases q <;> cases r.candidate <;> simp [Level.inverse]

/-- A sample at the other level than the qualified one (R46). -/
theorem CapLine.sample_opposite (hok : l.Ok) (h : l.level = some q) (hv : v ≠ q) :
    l.sample v t e f =
      let r := l.runFrom v t e f
      if r.count + 1 < l.qual then ({ l with run := some { r with count := r.count + 1 } }, none)
      else ({ l with level := some v, run := none },
        if l.edges.holds v.isHigh then some { rising := v.isHigh, time := r.time, epoch := r.epoch, frozen := r.frozen }
        else none) := by
  have hc : (l.runFrom v t e f).candidate = v := hok.run_candidate h hv
  have hadvance : l.sample v t e f =
      l.advance { l.runFrom v t e f with count := (l.runFrom v t e f).count + 1 } := by
    rw [CapLine.sample, h]
    unfold CapLine.runFrom
    cases l.run <;> simp [hv]
  rw [hadvance, CapLine.advance, CapLine.complete]
  simp only [hc]

theorem EdgeSet.holds_iff (x : EdgeSet) :
    x.holds v.isHigh = true ↔ x = .both ∨ x = .rising ∧ v = .high ∨ x = .falling ∧ v = .low := by
  cases x <;> cases v <;> simp [EdgeSet.holds, Level.isHigh]

/-- A sample that completes an edge (R46, R47). -/
theorem CapLine.sample_completes (hok : l.Ok) (h : (l.sample v t e f).2.isSome = true) :
    ∃ c, l.sample v t e f = ({ l with level := some v, run := none }, some c) ∧ c.rising = v.isHigh := by
  cases hl : l.level with
  | none =>
    rw [CapLine.sample_unset hl] at h
    cases h
  | some q =>
    by_cases hv : v = q
    · rw [hv, CapLine.sample_same hl] at h
      cases h
    · rw [CapLine.sample_opposite hok hl hv] at h ⊢
      dsimp only at h ⊢
      split at h
      · cases h
      next hc =>
        rw [if_neg hc]
        dsimp only at h
        split at h
        next hh => exact ⟨_, by rw [if_pos hh], rfl⟩
        · cases h

/-- Whether a sample completes an edge does not depend on the time of the cycle. -/
theorem CapLine.sample_isSome (hok : l.Ok) (t' : Ticks) (e' : Epoch) :
    (l.sample v t e f).2.isSome = (l.sample v t' e' f).2.isSome := by
  have hcount : (l.runFrom v t e f).count = (l.runFrom v t' e' f).count := by
    unfold CapLine.runFrom
    cases l.run <;> rfl
  cases hl : l.level with
  | none => rw [CapLine.sample_unset hl, CapLine.sample_unset hl]
  | some q =>
    by_cases hv : v = q
    · rw [hv, CapLine.sample_same hl, CapLine.sample_same hl]
    · rw [CapLine.sample_opposite hok hl hv, CapLine.sample_opposite hok hl hv]
      simp only [hcount]
      split
      · rfl
      · split <;> rfl

end

/-! ## CAPTURE_SAMPLE without an edge -/

section
variable {s : State} {n : Fin 6}

theorem State.takeCapture_silent {l : CapLine} (hd : (s.cap.get n).due = true) (h : s.sampleOf n = (l, none)) :
    s.takeCapture n = { s with cap := s.cap.set n { l with due := false } } := by
  rw [State.takeCapture, if_pos hd, h]
  rfl

theorem State.takeCapture_edge {l : CapLine} {c : Completion} (hd : (s.cap.get n).due = true)
    (h : s.sampleOf n = (l, some c)) :
    s.takeCapture n = State.completeEdge n c { s with cap := s.cap.set n { l with due := false } } := by
  rw [State.takeCapture, if_pos hd, h]
  rfl

end

/-- The line after a sample, by the table of qualification (R46). -/
def CapLine.qualified (v : Level) (start : Run) (l : CapLine) : CapLine :=
  match l.level, l.run with
  | none, _ => { l with level := some v }
  | some q, none =>
    if v = q then l else if l.qual = 1 then { l with level := some v } else { l with run := some start }
  | some q, some r =>
    if v = q then { l with run := none }
    else if r.count + 1 < l.qual then { l with run := some { r with count := r.count + 1 } }
    else { l with level := some v, run := none }

theorem CapLine.qualified_opposite {l : CapLine} {v q : Level} {t : Ticks} {e : Epoch} {f : Bool} (h : l.level = some q)
    (hv : v ≠ q) :
    l.qualified v { candidate := v, time := t, epoch := e, frozen := f, count := 1 } =
      let r := l.runFrom v t e f
      if r.count + 1 < l.qual then { l with run := some { r with count := r.count + 1 } }
      else { l with level := some v, run := none } := by
  have hqual : l.qual = l.qualMinus1.toNat + 1 := rfl
  unfold CapLine.qualified CapLine.runFrom
  rw [h]
  cases hr : l.run with
  | some r => simp only [if_neg hv, Option.getD_some]
  | none =>
    simp only [if_neg hv, Option.getD_none]
    by_cases h1 : l.qual = 1
    · rw [if_pos h1, if_neg (by omega), ← hr]
    · rw [if_neg h1, if_pos (by omega)]

theorem CapLine.sample_qualified {l : CapLine} {v : Level} {t : Ticks} {e : Epoch} {f : Bool} (hok : l.Ok)
    (hedge : (l.qualified v { candidate := v, time := t, epoch := e, frozen := f, count := 1 }).level = l.level ∨
      l.level = none ∨ l.edges = .rising ∧ v = .low ∨ l.edges = .falling ∧ v = .high) :
    l.sample v t e f = (l.qualified v { candidate := v, time := t, epoch := e, frozen := f, count := 1 }, none) := by
  cases hl : l.level with
  | none =>
    have hr : l.run = none := Option.eq_none_iff_forall_not_mem.2 fun r hr => by
      rw [(hok.2.2 r hr).1] at hl
      cases hl
    rw [CapLine.sample_unset hl, CapLine.qualified, hl, ← hr]
  | some q =>
    by_cases hv : v = q
    · subst hv
      rw [CapLine.sample_same hl, CapLine.qualified, hl]
      cases hr : l.run with
      | none => simp [← hr, ← hl]
      | some r => simp
    · rw [CapLine.qualified_opposite hl hv] at hedge ⊢
      rw [CapLine.sample_opposite hok hl hv]
      dsimp only at hedge ⊢
      split
      next => rfl
      next hc =>
        rw [if_neg hc, hl] at hedge
        have hheld : l.edges.holds v.isHigh = false := by
          rcases hedge with h | h | ⟨h, h'⟩ | ⟨h, h'⟩
          · exact absurd (Option.some.inj h) hv
          · cases h
          · rw [h, h']
            rfl
          · rw [h, h']
            rfl
        rw [hheld]
        rfl

/-- Settles O21. -/
theorem captureSampleQualifies : Obligations.CaptureSampleQualifies := by
  intro n s l v start l' hok hd hedge
  exact congrArg Host.Outcome.next (State.takeCapture_silent hd (CapLine.sample_qualified hok hedge))

/-! ## The trigger of an edge -/

/-- The outcome of a trigger of an edge in epoch `epoch`, where `now` is the epoch in force and `e` the target's entry (R50,
R51). -/
def CapLine.outcome (due : Nat) (epoch now : Epoch) (e : Entry) (l : CapLine) : Trigger :=
  if l.targetNone then .noMiss
  else if epoch ≠ now then .stale
  else match e with
    | .parked _ _ => if due < 2 ^ 56 then .noMiss else .miss
    | _ => .miss

section
variable {s : State} {n : Fin 6} {time : Ticks} {epoch : Epoch}

theorem State.triggerEdge_untargeted (h : (s.cap.get n).targetNone = true) :
    s.triggerEdge n time epoch = (s, .noMiss) := by
  simp [State.triggerEdge, CapLine.trigger, h]

theorem State.triggerEdge_stale (h : (s.cap.get n).targetNone = false) (he : epoch ≠ s.presented.epoch) :
    s.triggerEdge n time epoch = (s.schedFault (.trigStale n), .stale) := by
  simp [State.triggerEdge, CapLine.trigger, h, he]

theorem State.triggerEdge_request (h : (s.cap.get n).targetNone = false) (he : epoch = s.presented.epoch) :
    s.triggerEdge n time epoch =
      let r := s.requestArm (s.cap.get n).target.toFin (time.toNat + (s.cap.get n).offset.toNat) (.trigMiss n)
      (r.1, if r.2 then .miss else .noMiss) := by
  simp [State.triggerEdge, CapLine.trigger, h, he]

end

/-- What a trigger of line `n` leaves, by its outcome: the state `u` after it in `s` (R50, R51, R93, R108). -/
def State.Triggers (n : Fin 6) (due : Nat) (s u : State) (outcome : Trigger) : Prop :=
  (∀ m, u.entry m = match s.entry m with
    | .parked p k =>
      if (s.cap.get n).targetNone = false ∧ m = (s.cap.get n).target.toFin ∧ outcome = .noMiss then
        Entry.treat s.presented.time (.armed { p with due := BitVec.ofNat 56 due }
          { k with armedEpoch := some s.presented.epoch } false)
      else .parked p k
    | e => e) ∧
  u.disp = { s.disp with fault := match outcome with
    | .noMiss => s.disp.fault
    | .miss => .trigMiss n
    | .stale => .trigStale n } ∧
  u.icu = { s.icu with flags :=
    { s.icu.flags with sfault := s.icu.flags.sfault || (decide (outcome ≠ .noMiss) && !s.resetLow) } } ∧
  u.sched.staging = s.sched.staging ∧ u.sched.view = s.sched.view

section
variable {s : State} {n : Fin 6} {due : Nat}

theorem Entry.match_parked_self (e : Entry) {c : Prop} [Decidable c] (f : Plan → Kept → Entry) (hc : ¬c) :
    e = match e with
      | .parked p k => if c then f p k else .parked p k
      | e => e := by
  cases e with
  | parked p k => exact (if_neg hc).symm
  | _ => rfl

theorem State.Triggers.untargeted (h : (s.cap.get n).targetNone = true) : s.Triggers n due s .noMiss :=
  ⟨fun m => Entry.match_parked_self _ _ (by simp [h]), rfl, by simp, rfl, rfl⟩

theorem State.Triggers.fault {outcome : Trigger} {f : SchedFault}
    (hf : f = match outcome with
      | .noMiss => s.disp.fault
      | .miss => .trigMiss n
      | .stale => .trigStale n) (ho : outcome ≠ .noMiss) : s.Triggers n due (s.schedFault f) outcome := by
  rw [State.schedFault_eq]
  exact ⟨fun m => Entry.match_parked_self _ _ (by simp [ho]), by rw [hf], by simp [ho], rfl, rfl⟩

theorem State.Triggers.armed {p : Plan} {k : Kept} (h : (s.cap.get n).targetNone = false)
    (hp : s.entry (s.cap.get n).target.toFin = .parked p k) :
    s.Triggers n due (s.setEntry (s.cap.get n).target.toFin (armParked s.presented.time s.presented.epoch due p k))
      .noMiss := by
  refine ⟨fun m => ?_, rfl, by simp, rfl, rfl⟩
  rw [State.entry_setEntry]
  split
  next hm =>
    subst hm
    rw [hp]
    exact (if_pos ⟨h, rfl, rfl⟩).symm
  next hm => exact Entry.match_parked_self _ _ fun hc => hm hc.2.1.symm

end

theorem State.triggerEdge_triggers (n : Fin 6) (time : Ticks) (epoch : Epoch) (s : State) :
    let l := s.cap.get n
    let due := time.toNat + l.offset.toNat
    let outcome := l.outcome due epoch s.presented.epoch (s.entry l.target.toFin)
    ∃ u, s.triggerEdge n time epoch = (u, outcome) ∧ s.Triggers n due u outcome := by
  intro l due outcome
  cases ht : l.targetNone with
  | true =>
    have ho : outcome = .noMiss := if_pos ht
    rw [ho]
    exact ⟨s, State.triggerEdge_untargeted ht, .untargeted ht⟩
  | false =>
    by_cases he : epoch = s.presented.epoch
    · have ho : outcome = match s.entry l.target.toFin with
          | .parked _ _ => if due < 2 ^ 56 then .noMiss else .miss
          | _ => .miss := (if_neg (by simp [ht])).trans (if_neg (not_not.2 he))
      rw [State.triggerEdge_request ht he]
      by_cases harm : (∃ p k, s.entry l.target.toFin = .parked p k) ∧ due < 2 ^ 56
      · obtain ⟨⟨p, k, hp⟩, hd⟩ := harm
        have ho' : outcome = .noMiss := by rw [ho, hp]; exact if_pos hd
        rw [State.requestArm_armed _ _ _ s p k hp hd, ho']
        exact ⟨_, rfl, .armed ht hp⟩
      · have hmiss : (s.requestArm l.target.toFin due (.trigMiss n)).2 = true := by
          rw [← Bool.not_eq_false, State.requestArm_miss]
          exact harm
        have ho' : outcome = .miss := by
          rw [ho]
          cases hp : s.entry l.target.toFin with
          | parked p k => exact if_neg fun hd => harm ⟨⟨p, k, hp⟩, hd⟩
          | _ => rfl
        have hreq := State.requestArm_missed _ _ _ s hmiss
        refine ⟨s.schedFault (.trigMiss n), ?_, ho' ▸ .fault rfl (by decide)⟩
        simp only [ho']
        exact Prod.ext hreq (if_pos hmiss)
    · have ho : outcome = .stale := (if_neg (by simp [ht])).trans (if_pos he)
      rw [ho]
      exact ⟨_, State.triggerEdge_stale ht he, .fault rfl (by decide)⟩

/-- The end of an edge: what its trigger leaves, with the EDGE record where the line logs (R47, R49). -/
theorem State.finishEdge_eq (n : Fin 6) (rising : Bool) (time : Ticks) (epoch : Epoch) (frozen : Bool) (s : State) :
    s.finishEdge n rising time epoch frozen =
      let r := s.triggerEdge n time epoch
      { r.1 with cyc := { r.1.cyc with
        offers := if (r.1.cap.get n).log then
            insertOffer { time := time, epoch := epoch, body := .edge n rising frozen r.2 (r.1.cap.get n).qual }
              r.1.cyc.offers
          else r.1.cyc.offers } } := by
  rw [State.finishEdge]
  dsimp only
  split <;> rfl

section
variable {s : State} {n : Fin 6} (x : CapLine)

theorem State.completesEdge_setCap {m : Fin 6} (h : n ≠ m) :
    ({ s with cap := s.cap.set n x } : State).completesEdge m = s.completesEdge m := by
  have hline : (s.cap.set n x).get m = s.cap.get m := Bank.get_set_ne _ _ h
  unfold State.completesEdge
  rw [hline]
  rfl

theorem State.edgeLoadDue_setCap (h : s.tb.awaited ≠ some n) :
    ({ s with cap := s.cap.set n x } : State).edgeLoadDue = s.edgeLoadDue := by
  unfold State.edgeLoadDue
  dsimp only
  cases hst : s.tb.state with
  | awaitEdge w =>
    have hw : n ≠ w.line := by
      rintro rfl
      exact h (by rw [Timebase.awaited, hst])
    simp only [State.completesEdge_setCap x hw]
  | _ => rfl

/-- The sample of a line that no load waits for does not move what the cycle presents. -/
theorem State.presented_setCap (h : s.tb.awaited ≠ some n) :
    ({ s with cap := s.cap.set n x } : State).presented = s.presented := by
  have hdue := State.edgeLoadDue_setCap x h
  cases hw : s.edgeLoadDue with
  | none =>
    rw [hw] at hdue
    simp only [State.presented, hdue, hw]
  | some w =>
    have hline : (s.cap.set n x).get w.line = s.cap.get w.line := Bank.get_set_ne _ _ (by
      rintro rfl
      exact h (by rw [Timebase.awaited, ((s.edgeLoadDue_iff w).1 hw).1]))
    rw [State.presented_edgeLoad s w hw, State.presented_edgeLoad _ w (hdue.trans hw), State.edgeLoadTime,
      State.edgeLoadTime, hline]

end

theorem State.completeEdge_unawaited {s : State} {n : Fin 6} (h : s.tb.awaited ≠ some n) (c : Completion) :
    s.completeEdge n c = s.finishEdge n c.rising c.time c.epoch c.frozen := by
  unfold State.completeEdge
  split
  next w hw =>
    rw [if_neg]
    rintro rfl
    exact h (by rw [Timebase.awaited, hw])
  next => rfl

/-- Settles O22: the sample completes the run, and the edge ends as `State.triggerEdge_triggers` says. -/
theorem completedEdgeTriggersAndRecords : Obligations.CompletedEdgeTriggersAndRecords := by
  intro n s q l now v first due outcome fault edge ha hok hd hq hv hcount hedges
  have hsample : s.sampleOf n = ({ l with level := some v, run := none },
      some { rising := v.isHigh, time := first.time, epoch := first.epoch, frozen := first.frozen }) := by
    refine (CapLine.sample_opposite hok hq hv).trans ?_
    exact (if_neg (not_lt.2 hcount.ge)).trans (Prod.ext rfl (if_pos ((EdgeSet.holds_iff _).2 hedges)))
  let l' : CapLine := { l with level := some v, run := none, due := false }
  let s' : State := { s with cap := s.cap.set n l' }
  have hline : s'.cap.get n = l' := Bank.get_set_same _ _ _
  have hnow : s'.presented = now := State.presented_setCap l' ha
  obtain ⟨u, htrigger, hentry, hdisp, hicu, hstaging, hview⟩ := State.triggerEdge_triggers n first.time first.epoch s'
  rw [hline, hnow] at htrigger hentry hdisp hicu
  have houtcome : l'.outcome due first.epoch now.epoch (s'.entry l'.target.toFin) = outcome := rfl
  rw [houtcome] at htrigger hentry hdisp hicu
  have htake : s.takeCapture n = s'.finishEdge n v.isHigh first.time first.epoch first.frozen := by
    have ha' : s'.tb.awaited ≠ some n := ha
    exact (State.takeCapture_edge hd hsample).trans (State.completeEdge_unawaited ha' _)
  have hstep : exec (.captureSample n) s = .next (s.takeCapture n) := rfl
  rw [htake] at hstep
  obtain ⟨htb, hcap, houts, htrq, hguard, hsp, hpins, hcyc, -⟩ := State.triggerEdge_frame s' n first.time first.epoch
  rw [State.finishEdge_eq] at hstep
  rw [htrigger] at hstep htb hcap houts htrq hguard hsp hpins hcyc
  refine ⟨_, hstep, hcap, hentry, hdisp, hicu, ?_, hstaging, hview, htb, houts, htrq, hguard, hsp, hpins⟩
  dsimp only at hcap hcyc ⊢
  rw [hcap, hcyc, hline]
  rfl

end Sys2Proof.Machine
end

section
/-! The edge-aligned load (R38, R39), and the writes of a capture line's configuration (R41, R43, R53 to R56). -/
namespace Sys2Proof.Machine

/-! ## What notices do to the table -/

theorem State.takeNotice_sched (x : Notice) {s t : State} (hs : s.sched = t.sched) (hd : s.disp = t.disp) :
    (s.takeNotice x).sched = (t.takeNotice x).sched := by
  rw [State.takeNotice_eq, State.takeNotice_eq, hd]
  unfold State.mapEntries
  simp only [State.setSched_sched, hs]

/-- What a list of notices leaves of the table depends on the table and the hold set alone (R100). -/
theorem State.takeNoticeList_sched (ns : List Notice) {s t : State} (hs : s.sched = t.sched) (hd : s.disp = t.disp) :
    (ns.foldl State.takeNotice s).sched = (ns.foldl State.takeNotice t).sched := by
  induction ns generalizing s t with
  | nil => exact hs
  | cons x ns ih => exact ih (State.takeNotice_sched x hs hd) (by simp [hd])

theorem State.takeNoticeList_staging (ns : List Notice) (s : State) :
    (ns.foldl State.takeNotice s).sched.staging = s.sched.staging ∧
      (ns.foldl State.takeNotice s).sched.view = s.sched.view := by
  induction ns generalizing s with
  | nil => exact ⟨rfl, rfl⟩
  | cons x ns ih =>
    obtain ⟨hstaging, hview⟩ := ih (s.takeNotice x)
    rw [State.takeNotice_eq] at hstaging hview
    rw [List.foldl_cons, State.takeNotice_eq]
    exact ⟨hstaging, hview⟩

/-! ## The load -/

/-- The state in which the notice of an edge-aligned load is taken (R39). -/
def State.edgeLoaded (w : EdgeWait) (s : State) : State :=
  { s with
    tb := { s.tb with state := .running, time := s.edgeLoadTime w, epoch := s.tb.epoch + 1 }
    cyc := { s.cyc with
      wrapDue := false
      notices := s.cyc.notices ++ [{ epoch := s.tb.epoch + 1, time := s.edgeLoadTime w, sweep := true }]
      offers := insertOffer
        { time := s.edgeLoadTime w, epoch := s.tb.epoch + 1, body := .step .edgeLoad false 0 } s.cyc.offers }
    icu := { s.icu with flags := { s.icu.flags with tbevt := s.icu.flags.tbevt || !s.resetLow } } }

theorem State.applyEdgeLoad_eq (w : EdgeWait) (s : State) : s.applyEdgeLoad w = (s.edgeLoaded w).takeNotices := by
  unfold State.applyEdgeLoad
  dsimp only
  rw [State.raise_tbevt]
  rfl

theorem State.takeNotices_spec {s : State} (h : s.cyc.notices ≠ []) :
    s.takeNotices.sched = (s.cyc.notices.foldl State.takeNotice s.overtake).sched ∧
      s.takeNotices.cyc = { s.cyc with notices := [], earlySkips := .fill 32 false } ∧
      s.takeNotices.sched.staging = s.sched.staging ∧ s.takeNotices.sched.view = s.sched.view := by
  rw [State.takeNotices_eq, if_neg h]
  obtain ⟨hstaging, hview⟩ := State.takeNoticeList_staging s.cyc.notices
    { s.overtake with cyc := { s.overtake.cyc with notices := [] } }
  refine ⟨State.takeNoticeList_sched _ rfl rfl, ?_, hstaging, hview⟩
  rw [(State.takeNoticeList_frame _ _).2.2.2.2.2.2.2.2.2.1]
  rfl

theorem State.completeEdge_awaited {s : State} {w : EdgeWait} (h : s.tb.state = .awaitEdge w) (c : Completion) :
    s.completeEdge w.line c =
      (s.applyEdgeLoad w).finishEdge w.line c.rising w.target (s.applyEdgeLoad w).tb.epoch false := by
  rw [State.completeEdge, h]
  exact if_pos rfl

theorem CapLine.outcome_current (due : Nat) (e : Epoch) (x : Entry) (l : CapLine) :
    l.outcome due e e x = if l.targetNone then .noMiss else match x with
      | .parked _ _ => if due < 2 ^ 56 then .noMiss else .miss
      | _ => .miss := by
  exact if_congr Iff.rfl rfl (if_neg (not_not.2 rfl))

theorem CapLine.outcome_current_ne_stale (due : Nat) (e : Epoch) (x : Entry) (l : CapLine) :
    l.outcome due e e x ≠ .stale := by
  rw [CapLine.outcome_current]
  split
  · decide
  · split
    · split <;> decide
    · decide

/-- The sample that completes the awaited edge, whatever the time of the cycle (R46). -/
theorem State.sampleOf_completes {s : State} {n : Fin 6} (hok : (s.cap.get n).Ok) (h : s.completesEdge n = true) :
    ∃ c, s.sampleOf n = ({ s.cap.get n with level := some (s.capSample n), run := none }, some c) ∧
      c.rising = (s.capSample n).isHigh := by
  unfold State.completesEdge at h
  rw [Bool.and_eq_true, CapLine.sample_isSome hok s.presented.time s.presented.epoch] at h
  exact CapLine.sample_completes hok h.2

/-- The timebase after an edge-aligned load (R38, R39). -/
def State.loadedTimebase (w : EdgeWait) (s : State) : Timebase :=
  { s.tb with state := .running, time := s.edgeLoadTime w, epoch := s.tb.epoch + 1 }

theorem State.applyEdgeLoad_spec (w : EdgeWait) (s : State) :
    let y := s.applyEdgeLoad w
    let loaded := s.loadedTimebase w
    let notice : Notice := { epoch := loaded.epoch, time := loaded.time, sweep := true }
    y.tb = loaded ∧ y.presented = loaded ∧
      y.sched = ((s.cyc.notices ++ [notice]).foldl State.takeNotice s.overtake).sched ∧
      y.sched.staging = s.sched.staging ∧ y.sched.view = s.sched.view ∧
      y.icu = { s.icu with flags := { s.icu.flags with tbevt := s.icu.flags.tbevt || !s.resetLow } } ∧
      y.cyc = { s.cyc with
        wrapDue := false
        notices := []
        earlySkips := .fill 32 false
        offers := insertOffer { time := loaded.time, epoch := loaded.epoch, body := .step .edgeLoad false 0 }
          s.cyc.offers } := by
  intro y loaded notice
  have hy : y = (s.edgeLoaded w).takeNotices := State.applyEdgeLoad_eq w s
  obtain ⟨hsched, hcyc, hstaging, hview⟩ := State.takeNotices_spec (show (s.edgeLoaded w).cyc.notices ≠ [] by
    simp [State.edgeLoaded])
  have htb : y.tb = loaded := by
    rw [hy]
    exact (State.takeNotices_frame _).1
  have hicu : y.icu = (s.edgeLoaded w).icu := by simp [hy]
  rw [← hy] at hsched hcyc hstaging hview
  have hnone : y.edgeLoadDue = none := by
    rw [State.edgeLoadDue, htb]
    rfl
  have hwrap : y.cyc.wrapDue = false := by
    rw [hcyc]
    rfl
  exact ⟨htb, (State.presented_eq y hwrap hnone).trans htb, hsched.trans (State.takeNoticeList_sched _ rfl rfl), hstaging,
    hview, hicu, hcyc⟩

/-- Settles O23: the sample applies the load, and then the edge ends as `State.triggerEdge_triggers` says. -/
theorem awaitedEdgeLoadsTheTarget : Obligations.AwaitedEdgeLoadsTheTarget := by
  intro s w l v time loaded load notice noted due outcome edge hst hok hd hc
  refine ⟨State.presented_edgeLoad s w ((s.edgeLoadDue_iff w).2 ⟨hst, hc⟩), ?_⟩
  obtain ⟨c, hsample, hrising⟩ := State.sampleOf_completes hok hc
  let l' : CapLine := { l with level := some v, run := none, due := false }
  let s' : State := { s with cap := s.cap.set w.line l' }
  have hline : s'.cap.get w.line = l' := Bank.get_set_same _ _ _
  have htime : s'.edgeLoadTime w = time := by
    rw [State.edgeLoadTime, hline]
    rfl
  have hloaded : s'.loadedTimebase w = loaded := by
    rw [State.loadedTimebase, htime]
  obtain ⟨htb, hnow, hsched, hstaging, hview, hicu, hcyc⟩ := State.applyEdgeLoad_spec w s'
  rw [hloaded] at htb hnow hsched hcyc
  have htake : s.takeCapture w.line =
      (s'.applyEdgeLoad w).finishEdge w.line v.isHigh w.target loaded.epoch false := by
    have hst' : s'.tb.state = .awaitEdge w := hst
    have hrising : c.rising = v.isHigh := hrising
    rw [← htb, ← hrising]
    exact (State.takeCapture_edge hd hsample).trans (State.completeEdge_awaited hst' c)
  obtain ⟨hycap, hydisp, hyouts, hytrq, hyguard, hysp, hypins, hylow, -⟩ := State.applyEdgeLoad_frame s' w
  have hentries : ∀ m, (s'.applyEdgeLoad w).entry m = noted.entry m := fun m =>
    congrArg (fun x : Schedule => x.entries.get m) (hsched.trans (State.takeNoticeList_sched _ rfl rfl))
  generalize s'.applyEdgeLoad w = y at *
  obtain ⟨u, htrigger, huentry, hudisp, huicu, hustaging, huview⟩ :=
    State.triggerEdge_triggers w.line w.target loaded.epoch y
  obtain ⟨hutb, hucap, huouts, hutrq, huguard, husp, hupins, hucyc, -⟩ :=
    State.triggerEdge_frame y w.line w.target loaded.epoch
  have hyline : y.cap.get w.line = l' := by rw [hycap, hline]
  have houtcome : l'.outcome due loaded.epoch loaded.epoch (noted.entry l'.target.toFin) = outcome :=
    CapLine.outcome_current _ _ _ _
  have hstale : outcome ≠ .stale := houtcome ▸ CapLine.outcome_current_ne_stale _ _ _ _
  have hgoal : l'.outcome (w.target.toNat + l'.offset.toNat) loaded.epoch y.presented.epoch (y.entry l'.target.toFin)
      = outcome := by
    rw [hnow, hentries]
    exact houtcome
  rw [hyline, hgoal] at htrigger huentry hudisp huicu
  rw [hnow] at huentry
  have hstep : exec (.captureSample w.line) s = .next (s.takeCapture w.line) := rfl
  rw [htake, State.finishEdge_eq, htrigger] at hstep
  rw [htrigger] at hutb hucap huouts hutrq huguard husp hupins hucyc
  refine ⟨_, hstep, hutb.trans htb, hucap.trans hycap, fun m => ?entry, ?disp, ?icu, ?cyc, hustaging.trans hstaging,
    huview.trans hview, huouts.trans hyouts, hutrq.trans hytrq, huguard.trans hyguard, husp.trans hysp, hupins.trans hypins⟩
  case entry =>
    rw [← hentries]
    exact huentry m
  case disp =>
    refine hudisp.trans ?_
    rw [hydisp]
    generalize outcome = o at hstale
    cases o with
    | stale => exact absurd rfl hstale
    | noMiss | miss => rfl
  case icu =>
    refine huicu.trans ?_
    rw [hicu, hylow]
    generalize outcome = o at hstale
    cases o with
    | stale => exact absurd rfl hstale
    | noMiss | miss => rfl
  case cyc =>
    dsimp only at hucap hucyc ⊢
    rw [hucap, hucyc, hyline, hcyc]
    rfl

end Sys2Proof.Machine
end

section
/-! The writes of a capture line's configuration (R41, R43, R53 to R56). -/
namespace Sys2Proof.Machine

/-! ## Bytes of a quantity -/

/-- The bits of a quantity of which one byte was replaced. -/
theorem getLsbD_withByte (n i : Nat) (b : Byte) {w : Nat} (x : BitVec w) {k : Nat} (hk : k < w) :
    (withByte n i b x).getLsbD k =
      if 8 * (n - 1 - i) ≤ k ∧ k < 8 * (n - 1 - i) + 8 then b.getLsbD (k - 8 * (n - 1 - i)) else x.getLsbD k := by
  simp only [withByte]
  generalize 8 * (n - 1 - i) = a
  simp only [BitVec.getLsbD_or, BitVec.getLsbD_and, BitVec.getLsbD_not, BitVec.getLsbD_shiftLeft, BitVec.getLsbD_setWidth,
    getLsbD_255, hk, decide_true, Bool.true_and]
  by_cases hlt : k < a
  · rw [if_neg (by omega)]
    simp [hlt]
  · by_cases hge : k < a + 8
    · rw [if_pos ⟨not_lt.1 hlt, hge⟩]
      have h8 : k - a < 8 := by omega
      have hw : k - a < w := by omega
      simp [hlt, h8, hw]
    · rw [if_neg (by omega)]
      have hb := BitVec.getLsbD_of_ge b (k - a) (by omega)
      have h8 : ¬k - a < 8 := by omega
      simp [hlt, h8, hb]

/-- The four bytes of a 32-bit quantity, each replaced. -/
theorem withByte_four (b : Byte) (x : BitVec 32) :
    withByte 4 0 b x = b ++ x.extractLsb' 0 24 ∧
    withByte 4 1 b x = x.extractLsb' 24 8 ++ b ++ x.extractLsb' 0 16 ∧
    withByte 4 2 b x = x.extractLsb' 16 16 ++ b ++ x.extractLsb' 0 8 ∧
    withByte 4 3 b x = x.extractLsb' 8 24 ++ b := by
  refine ⟨?_, ?_, ?_, ?_⟩
  all_goals
    apply BitVec.eq_of_getLsbD_eq
    intro k hk
    rw [getLsbD_withByte _ _ _ _ hk]
    simp only [BitVec.getLsbD_append, BitVec.getLsbD_extractLsb']
    grind

theorem EdgeSet.ofCode_getD (c : BitVec 2) (old : EdgeSet) :
    (EdgeSet.ofCode c).getD old =
      if c.toNat = 0 then .rising else if c.toNat = 1 then .falling else if c.toNat = 2 then .both else old := by
  unfold EdgeSet.ofCode
  split
  next h => simp [h]
  next h => simp [h]
  next h => simp [h]
  next h0 h1 h2 => rw [if_neg h0, if_neg h1, if_neg h2, Option.getD_none]

/-! ## The control byte -/

section
variable {s : State} {n : Fin 6} {x : CapLine} {d q : BitVec 3}

theorem CapLine.writeControl_true (l : CapLine) :
    l.writeControl true d q =
      if l.enabled then { l with divisor := d, qualMinus1 := q, run := none, interval := 0, due := false }
      else { l with enabled := true, divisor := d, qualMinus1 := q, level := none, run := none, interval := 0,
                    due := false } := by
  cases h : l.enabled <;> simp [CapLine.writeControl, h]

theorem CapLine.writeControl_false (l : CapLine) :
    l.writeControl false d q =
      if l.enabled then { l with enabled := false, divisor := d, qualMinus1 := q, level := none, run := none,
                                 interval := 0, due := false }
      else { l with divisor := d, qualMinus1 := q } := by
  cases h : l.enabled <;> simp [CapLine.writeControl, h]

theorem State.cancelIfDisabled_enabled (h : ∀ m ∈ s.tb.awaited, (s.cap.get m).enabled = true) :
    s.cancelIfDisabled = s := by
  unfold State.cancelIfDisabled
  split
  next w hw => exact if_pos (h w.line (by rw [Timebase.awaited, hw]; rfl))
  next => rfl

theorem State.cancelIfDisabled_disabled {w : EdgeWait} (hst : s.tb.state = .awaitEdge w)
    (h : (s.cap.get w.line).enabled = false) :
    s.cancelIfDisabled = { s with
      tb := { s.tb with state := w.cancelled }
      icu := { s.icu with flags := { s.icu.flags with tbevt := s.icu.flags.tbevt || !s.resetLow } } } := by
  rw [State.cancelIfDisabled, hst]
  simp only [h, Bool.false_eq_true, if_false]
  rw [State.raise_tbevt]
  rfl

theorem State.writeCapControl_eq (on : Bool) :
    s.writeCapControl n on d q =
      ({ s with cap := s.cap.set n ((s.cap.get n).writeControl on d q) } : State).cancelIfDisabled := rfl

/-- A write that leaves the written line enabled cancels no load (R41). -/
theorem State.setCap_enabled (hen : ∀ m ∈ s.tb.awaited, (s.cap.get m).enabled = true)
    (hx : n ∈ s.tb.awaited → x.enabled = true) :
    ({ s with cap := s.cap.set n x } : State).cancelIfDisabled = { s with cap := s.cap.set n x } := by
  refine State.cancelIfDisabled_enabled fun m hm => ?_
  by_cases hnm : n = m
  · subst hnm
    exact (congrArg CapLine.enabled (Bank.get_set_same _ _ _)).trans (hx hm)
  · exact (congrArg CapLine.enabled (Bank.get_set_ne _ _ hnm)).trans (hen m hm)

theorem State.cancelIfDisabled_page (s : State) : s.cancelIfDisabled.sp = s.sp := by
  unfold State.cancelIfDisabled
  split
  · split <;> simp [State.setTbState]
  · rfl

theorem State.writePaged_writeCapControl (hs : s.takesBytes = true) (on : Bool) {t : State}
    (ht : s.writeCapControl n on d q = t) :
    s.writePaged 1 (capAddr n 0) (State.writeCapControl n on d q) = t.past 1 (capAddr n 0) := by
  subst ht
  exact State.writePaged_eq 1 _ (State.writeCapControl n on d q) s hs
    (congrArg SerialPort.page (State.cancelIfDisabled_page _))

theorem State.writePaged_writeCapConfig (hs : s.takesBytes = true) (reg : CapByte) (data : Byte) {l : CapLine}
    (hl : (s.cap.get n).writeConfig reg data = l) (i : Nat) :
    s.writePaged 1 (capAddr n i) (State.writeCapConfig n reg data) =
      ({ s with cap := s.cap.set n l } : State).past 1 (capAddr n i) := by
  subst hl
  exact State.writePaged_eq 1 _ (State.writeCapConfig n reg data) s hs rfl

end

/-- Settles O24: the control byte by the enable that it leaves, and the other bytes each as a field of the line. -/
theorem captureConfigurationWrites : Obligations.CaptureConfigurationWrites := by
  intro n d q data s hs l put on off disabled at_ hen
  obtain ⟨hseconds, hhigh, hmid, hlow⟩ := withByte_four data l.offset
  have hlowN : s.resetLow = false := s.takesBytes_high hs
  have hon : s.writeCapControl n true d q = put on := by
    rw [State.writeCapControl_eq, CapLine.writeControl_true]
    refine State.setCap_enabled hen fun _ => ?_
    split <;> simp_all
  have hoff : n ∉ s.tb.awaited → s.writeCapControl n false d q = put off := fun hn => by
    rw [State.writeCapControl_eq, CapLine.writeControl_false]
    exact State.setCap_enabled hen fun h => absurd h hn
  have hdisabled : s.writeCapControl n false d q = disabled := by
    unfold disabled
    cases hst : s.tb.state with
    | awaitEdge w =>
      have ha : s.tb.awaited = some w.line := by rw [Timebase.awaited, hst]
      dsimp only
      by_cases hn : w.line = n
      · have hoffline : ((put off).cap.get w.line).enabled = false := by
          rw [hn]
          refine (congrArg CapLine.enabled (Bank.get_set_same _ _ _)).trans ?_
          have hl : l.enabled = true := hen n (by rw [ha, hn]; rfl)
          exact congrArg CapLine.enabled (if_pos hl)
        rw [if_pos hn, State.writeCapControl_eq, CapLine.writeControl_false]
        have hst' : (put off).tb.state = .awaitEdge w := hst
        refine (State.cancelIfDisabled_disabled hst' hoffline).trans ?_
        simp only [put, hlowN, Bool.not_false, Bool.or_true]
        rfl
      · rw [if_neg hn]
        exact hoff fun hm => hn (Option.some.inj (ha.symm.trans hm))
    | stopped | running | slewing | slewEnding => exact hoff fun hm => by simp [Timebase.awaited, hst] at hm
  have hrestart : s.writeCapControl n l.enabled d q = put (if l.enabled then on else off) := by
    cases hl : l.enabled with
    | true => exact hon
    | false =>
      exact hoff fun hm => by
        have := hen n hm
        rw [hl] at this
        cases this
  have hcode : data.toNat % 4 = (data.extractLsb' 0 2).toNat := by
    rw [BitVec.extractLsb'_toNat]
    rfl
  refine ⟨⟨?_, ?_, ?_⟩, ?_, ?_, ?_, ?_, ?_, ?_⟩
  · exact congrArg Host.Outcome.next (State.writePaged_writeCapControl hs true hon)
  · exact congrArg Host.Outcome.next (State.writePaged_writeCapControl hs false hdisabled)
  · exact congrArg Host.Outcome.next (State.writePaged_writeCapControl hs l.enabled hrestart)
  · refine congrArg Host.Outcome.next (State.writePaged_writeCapConfig hs .edgesLog data ?_ 1)
    rw [CapLine.writeConfig, EdgeSet.ofCode_getD, hcode]
  · exact congrArg Host.Outcome.next (State.writePaged_writeCapConfig hs .target data rfl 2)
  · refine congrArg Host.Outcome.next (State.writePaged_writeCapConfig hs .offsetSeconds data ?_ 3)
    rw [← hseconds]
    rfl
  · refine congrArg Host.Outcome.next (State.writePaged_writeCapConfig hs .offsetHigh data ?_ 4)
    rw [← hhigh]
    rfl
  · refine congrArg Host.Outcome.next (State.writePaged_writeCapConfig hs .offsetMid data ?_ 5)
    rw [← hmid]
    rfl
  · refine congrArg Host.Outcome.next (State.writePaged_writeCapConfig hs .offsetLow data ?_ 6)
    rw [← hlow]
    rfl

end Sys2Proof.Machine
end

section
/-! The output configuration, the queue's commands, and the registers of timebase, queue and interrupt unit (R10, R14, R113, R114,
R135, R139, R141, R143, R163, R164, R173). -/
namespace Sys2Proof.Machine

/-! ## Output configuration -/

section
variable {s : State}

theorem outConfigAddr_eq (n : Fin 8) : outConfigAddr n = if n.val < 4 then 0x08 else 0x09 := rfl

theorem Level.ofBool_eq (b : Bool) : Level.ofBool b = if b then .high else .low := by
  cases b <;> rfl

theorem State.writeOutConfig_get (half : Fin 2) (data : Byte) (s : State) (n : Fin 8) :
    (s.writeOutConfig half data).outs.get n =
      if n.val / 4 = half.val then
        { s.outs.get n with
          mode := if data.getLsbD (2 * (n.val % 4)) then .driven else .off
          idle := if data.getLsbD (2 * (n.val % 4) + 1) then .high else .low }
      else s.outs.get n := by
  rw [← Level.ofBool_eq]
  exact Bank.get_ofFn _ n

theorem exec_registerWrite {addr : Addr} {data : Byte} (hs : s.takesBytes = true) :
    exec (.registerWrite addr data) s = .next ((s.deliverByte addr data).stepWrite addr) :=
  congrArg Host.Outcome.next (if_pos hs)

theorem State.deliverByte_outConfig (half : Fin 2) (data : Byte) (hp : s.sp.page = 2) :
    s.deliverByte (if half.val = 0 then 0x08 else 0x09) data = s.writeOutConfig half data := by
  unfold State.deliverByte
  rw [hp]
  fin_cases half <;> rfl

theorem State.stepWrite_outs (addr : Addr) (s : State) : (s.stepWrite addr).outs = s.outs := by
  unfold State.stepWrite
  split
  · split <;> rfl
  · rfl

end

/-- Settles O39. -/
theorem modeAndIdleWritesKeepTheLevel : Obligations.ModeAndIdleWritesKeepTheLevel := by
  intro n m v s hs addr put
  refine ⟨congrArg Host.Outcome.next (State.writePaged_eq 2 _ (State.writeMode n m) s hs rfl),
    congrArg Host.Outcome.next (State.writePaged_eq 2 _ (State.writeIdle n v) s hs rfl), fun data hp =>
    ⟨_, exec_registerWrite hs, ?_⟩⟩
  have haddr : addr = if (⟨n.val / 4, by omega⟩ : Fin 2).val = 0 then 0x08 else 0x09 :=
    if_congr (by simp only []; omega) rfl rfl
  rw [State.stepWrite_outs, haddr, State.deliverByte_outConfig _ data hp, State.writeOutConfig_get, if_pos rfl]

/-! ## The queue's commands -/

section
variable {s : State}

theorem State.qPop_nil (h : s.drainReady.trq.records = []) : State.qPop s = (s.drainReady, .qEmpty) := by
  simp [State.qPop, h]

theorem State.qPop_cons (h : s.drainReady.trq.records ≠ []) :
    State.qPop s = ({ s.drainReady with
      trq := { s.drainReady.trq with records := s.drainReady.trq.records.drop 1 } }, .ok) := by
  rw [State.qPop]
  split
  next hr => exact absurd hr h
  next =>
    rw [List.drop_one]
    rfl

end

/-- Settles O42. -/
theorem popAndFlushRemoveRecords : Obligations.PopAndFlushRemoveRecords := by
  intro arg s hs b
  have hlow : b.resetLow = s.resetLow := by simp [b]
  refine ⟨?pop, exec_of_command rfl hs rfl hlow⟩
  case pop =>
    split
    next h => exact exec_of_command rfl hs (State.qPop_nil h) hlow
    next h => exact exec_of_command rfl hs (State.qPop_cons h) hlow

section
variable {s : State}

theorem State.endTransaction_plain (h : ∀ p copy last, s.sp.tx ≠ .reading p (.head copy last)) :
    s.endTransaction = { s with sp := { s.sp with tx := .idle, fetchDue := false } } := by
  unfold State.endTransaction
  split
  next p copy last hx => exact absurd hx (h p copy last)
  next => rfl

theorem State.endTransaction_head {p : Addr} {copy : Option Record} {last : Bool}
    (h : s.sp.tx = .reading p (.head copy last)) :
    s.endTransaction =
      let b := s.drainReady.autoPop copy last
      { b with sp := { b.sp with tx := .idle, fetchDue := false } } := by
  rw [State.endTransaction, h]
  rfl

theorem State.autoPop_some {r head : Record} {rest : List Record} {last : Bool} (h : s.trq.records = head :: rest) :
    s.autoPop (some r) last =
      if s.trq.autoPop = true ∧ last = true ∧ r.seq = head.seq then
        { s with trq := { s.trq with records := rest } }
      else s := by
  have hpop : s.autoPop (some r) last = if s.trq.autoPop && last && r.seq == head.seq then s.setTrq s.trq.pop else s := by
    unfold State.autoPop
    simp only [h]
  rw [hpop, RecordQueue.pop, h]
  simp only [Bool.and_eq_true, beq_iff_eq, and_assoc]
  rfl

theorem State.autoPop_nothing {copy : Option Record} {last : Bool} (h : copy = none ∨ s.trq.records = []) :
    s.autoPop copy last = s := by
  unfold State.autoPop
  split
  next r x xs hr => rcases h with h | h <;> simp_all
  next => rfl

end

/-- Settles O43: the end of a read of the head window, by what was latched and what the queue holds. -/
theorem transactionEndMakesTheAutoPop : Obligations.TransactionEndMakesTheAutoPop := by
  intro s closed
  refine ⟨fun h => congrArg Host.Outcome.next (State.endTransaction_plain h), ?_⟩
  intro pointer copy last h b
  have hend : exec .transactionEnd s = .next (closed (b.autoPop copy last)) :=
    congrArg Host.Outcome.next (State.endTransaction_head h)
  rw [hend]
  cases copy with
  | none => rw [State.autoPop_nothing (.inl rfl)]
  | some r =>
    cases hr : b.trq.records with
    | nil => rw [State.autoPop_nothing (.inr hr)]
    | cons head rest =>
      rw [State.autoPop_some hr]
      dsimp only
      split <;> rfl

/-! ## Pending and enable registers -/

theorem getLsbD_bitAt (i k : Nat) (b : Bool) (hi : i < 8) : (bitAt i b).getLsbD k = (b && decide (k = i)) := by
  cases b with
  | false => simp [bitAt]
  | true =>
    have hk : (1#8 <<< i).getLsbD k = decide (k = i) := by
      simp
      grind
    rw [bitAt, if_pos rfl, Bool.true_and, ← hk]
    congr 1
    apply BitVec.eq_of_toNat_eq
    simp [Nat.shiftLeft_eq]

theorem State.pendingByte_getLsbD (s : State) (k : Nat) :
    s.pendingByte.getLsbD k =
      (s.qlevel && decide (k = 0) || s.icu.flags.qloss && decide (k = 1) || s.icu.flags.sfault && decide (k = 2) ||
        s.icu.flags.gtrip && decide (k = 3) || s.icu.flags.tbevt && decide (k = 4) || s.icu.flags.cmderr && decide (k = 5)) := by
  simp only [State.pendingByte, BitVec.getLsbD_or]
  rw [getLsbD_bitAt 0 k _ (by decide), getLsbD_bitAt 1 k _ (by decide), getLsbD_bitAt 2 k _ (by decide),
    getLsbD_bitAt 3 k _ (by decide), getLsbD_bitAt 4 k _ (by decide), getLsbD_bitAt 5 k _ (by decide)]

/-- Settles O48. -/
theorem pendingAndEnableRegisters : Obligations.PendingAndEnableRegisters := by
  intro data s hs b f
  refine ⟨congrArg Host.Outcome.next (if_pos hs), congrArg Host.Outcome.next (if_pos hs), rfl, ?_, ?_, ?_, ?_, ?_, ?_⟩
  all_goals
    rw [show s.readLive 0x7E = s.pendingByte from rfl, State.pendingByte_getLsbD]
    simp [State.qlevel]

/-! ## The registers of the timebase and of the queue -/

theorem TrimWindow.ofCode_getD (c : BitVec 2) (old : TrimWindow) :
    (TrimWindow.ofCode c).getD old =
      if c.toNat = 0 then .one else if c.toNat = 1 then .eight else if c.toNat = 2 then .sixtyFour else old := by
  unfold TrimWindow.ofCode
  split
  next h => simp [h]
  next h => simp [h]
  next h => simp [h]
  next h0 h1 h2 => rw [if_neg h0, if_neg h1, if_neg h2, Option.getD_none]

/-- The two bytes of a trim magnitude, each replaced (R10). -/
theorem trimMagnitude_bytes (m : BitVec 12) (data : Byte) :
    (m &&& 0x0FF#12) ||| ((data.extractLsb' 0 4).setWidth 12 <<< 8) = data.extractLsb' 0 4 ++ m.extractLsb' 0 8 ∧
    (m &&& 0xF00#12) ||| data.setWidth 12 = m.extractLsb' 8 4 ++ data := by
  have hmask : (0xF00#12) = ~~~(255#12) := by decide
  refine ⟨?_, ?_⟩
  all_goals
    apply BitVec.eq_of_getLsbD_eq
    intro k hk
    simp only [hmask, BitVec.getLsbD_or, BitVec.getLsbD_and, BitVec.getLsbD_not, getLsbD_255, BitVec.getLsbD_append,
      BitVec.getLsbD_extractLsb', BitVec.getLsbD_shiftLeft, BitVec.getLsbD_setWidth]
    grind

theorem storedRate_eq (data : Byte) :
    storedRate data = if data.toNat < 4 then 4 else if 16 < data.toNat then 16 else data.setWidth 5 := by
  unfold storedRate
  split
  next h =>
    rw [max_eq_left (by omega)]
    rfl
  next h =>
    split
    next h' =>
      rw [min_eq_left (by omega)]
      rfl
    next h' =>
      rw [min_eq_right (by omega), max_eq_right (by omega)]
      rfl

theorem storedThreshold_eq (data : Byte) :
    storedThreshold (data.extractLsb' 0 6) =
      let t := data.toNat % 64
      if t = 0 then 1 else if 32 < t then 32 else BitVec.ofNat 6 t := by
  have ht : (data.extractLsb' 0 6).toNat = data.toNat % 64 := by
    rw [BitVec.extractLsb'_toNat]
    rfl
  dsimp only
  rw [storedThreshold, ← ht, BitVec.ofNat_toNat, BitVec.setWidth_eq]
  exact if_congr (by rw [← BitVec.toNat_inj]; rfl) rfl rfl

theorem State.writePage_eq (data : Byte) (s : State) :
    s.writePage data = if h : data.toNat < 3 then { s with sp := { s.sp with page := ⟨data.toNat, h⟩ } } else s := by
  by_cases h : data.toNat < 3
  · rw [State.writePage, indexOf_of_lt h, dif_pos h]
    rfl
  · rw [State.writePage, indexOf_eq_none_iff.2 (not_lt.1 h), dif_neg h]

/-- Settles O49. -/
theorem configurationRegisterWrites : Obligations.ConfigurationRegisterWrites := by
  intro data s hs b t trim
  obtain ⟨hhigh, hlow⟩ := trimMagnitude_bytes s.tb.written.magnitude data
  have hcode : (data.extractLsb' 0 2).toNat = data.toNat % 4 := by
    rw [BitVec.extractLsb'_toNat]
    rfl
  have htrim : ∀ reg x, s.tb.written.write reg data = x →
      s.writePaged 2 (trimByteAddr reg) (State.writeTrim reg data) = (trim x).past 2 (trimByteAddr reg) := by
    rintro reg x rfl
    exact State.writePaged_eq 2 _ (State.writeTrim reg data) s hs rfl
  refine ⟨congrArg Host.Outcome.next (htrim .signHigh _ ?_), congrArg Host.Outcome.next (htrim .low _ ?_),
    congrArg Host.Outcome.next (htrim .window _ ?_), congrArg Host.Outcome.next ?_, congrArg Host.Outcome.next ?_,
    congrArg Host.Outcome.next ?_⟩
  · rw [← hhigh]
    rfl
  · rw [← hlow]
    rfl
  · rw [← hcode, ← TrimWindow.ofCode_getD]
    rfl
  · rw [← storedRate_eq]
    exact State.writePaged_eq 2 _ (State.writeRate data) s hs rfl
  · have hconf : s.writeQueueConfig data = { b with trq := { b.trq with
        threshold := if t = 0 then 1 else if 32 < t then 32 else BitVec.ofNat 6 t
        policy := if data.getLsbD 6 then .keepNewest else .keepOldest
        autoPop := data.getLsbD 7 } } := by
      rw [State.writeQueueConfig, RecordQueue.configure, storedThreshold_eq]
      rfl
    rw [← hconf]
    exact State.writePaged_eq 2 _ (State.writeQueueConfig data) s hs (by simp [State.writeQueueConfig])
  · refine (if_pos hs).trans ?_
    rw [State.writePage_eq]
    split <;> rfl

end Sys2Proof.Machine
end

section
/-! The order of the queue's port (R131). -/
namespace Sys2Proof.Machine

/-! ## One offer put in its place -/

theorem insertOffer_perm (o : Offer) (os : List Offer) : (insertOffer o os).Perm (o :: os) := by
  induction os with
  | nil => exact List.Perm.refl _
  | cons p ps ih =>
    unfold insertOffer
    split
    · exact List.Perm.refl _
    · exact (ih.cons p).trans (List.Perm.swap o p ps)

/-- A new offer stands behind those of its own rank (R131). -/
theorem filter_insertOffer {o : Offer} {os : List Offer} (h : OffersSorted os) :
    (insertOffer o os).filter (fun x => decide (x.rank = o.rank)) =
      os.filter (fun x => decide (x.rank = o.rank)) ++ [o] := by
  induction os with
  | nil => simp [insertOffer]
  | cons p ps ih =>
    obtain ⟨hp, hps⟩ := List.pairwise_cons.1 h
    unfold insertOffer
    split
    next hlt =>
      have hnone : ∀ x ∈ p :: ps, ¬decide (x.rank = o.rank) = true := fun x hx => by
        have hge : p.rank ≤ x.rank := (List.mem_cons.1 hx).elim (fun e => e ▸ le_rfl) (hp x)
        simp only [decide_eq_true_eq]
        omega
      rw [List.filter_cons_of_pos (by simp), List.filter_eq_nil_iff.2 hnone]
      rfl
    next =>
      rw [List.filter_cons, List.filter_cons, ih hps]
      split <;> rfl

/-! ## The ranks of the offers still to come -/

/-- The offers that `t` has beyond those of `s` have rank `k` or above. -/
def State.OffersFrom (k : Nat) (s t : State) : Prop := ∀ x ∈ t.cyc.offers, x ∈ s.cyc.offers ∨ k ≤ x.rank

namespace State.OffersFrom

variable {k : Nat} {s t u : State}

theorem of_eq (h : t.cyc.offers = s.cyc.offers) : s.OffersFrom k t := fun _ hx => .inl (h ▸ hx)

theorem trans (h : s.OffersFrom k t) (h' : t.OffersFrom k u) : s.OffersFrom k u := fun x hx =>
  (h' x hx).elim (h x) .inr

theorem of_insert {o : Offer} (h : t.cyc.offers = insertOffer o s.cyc.offers) (hk : k ≤ o.rank) : s.OffersFrom k t := by
  intro x hx
  rw [h, mem_insertOffer] at hx
  exact hx.elim (fun e => .inr (e ▸ hk)) .inl

theorem mono {k' : Nat} (h : s.OffersFrom k t) (hk : k' ≤ k) : s.OffersFrom k' t := fun x hx =>
  (h x hx).imp_right hk.trans

theorem zero : s.OffersFrom 0 t := fun _ _ => .inr (Nat.zero_le _)

end State.OffersFrom

section
variable {s : State}

theorem State.offerSlewEnd_offers (s : State) : s.OffersFrom 2 s.offerSlewEnd := by
  cases h : s.cyc.slewEndDue with
  | none => exact .of_eq (by rw [State.offerSlewEnd_none s h])
  | some a =>
    rw [State.offerSlewEnd_some h]
    exact .of_insert rfl le_rfl

theorem State.takeNotices_offers (s : State) : s.takeNotices.cyc.offers = s.cyc.offers := by
  by_cases h : s.cyc.notices = []
  · rw [s.takeNotices_nil h]
  · rw [(State.takeNotices_spec h).2.1]

theorem State.takeWrap_offers (s : State) : s.OffersFrom 2 s.takeWrap := by
  have hnotices : ∀ t : State, t.OffersFrom 2 t.takeNotices := fun t => .of_eq t.takeNotices_offers
  unfold State.takeWrap
  split
  · rw [State.applyWrap_eq]
    have hwrap : s.OffersFrom 2 s.wrapped := .of_insert rfl le_rfl
    exact (hwrap.trans s.wrapped.offerSlewEnd_offers).trans (hnotices _)
  · exact hnotices s

theorem State.takeWrap_offers_unwrapped (h : s.cyc.wrapDue = false) : s.takeWrap.cyc.offers = s.cyc.offers := by
  rw [State.takeWrap, if_neg (by simp [State.wraps, h]), State.takeNotices_offers]

theorem State.finishEdge_offers (n : Fin 6) (b : Bool) (t : Ticks) (e : Epoch) (f : Bool) (s : State) :
    s.OffersFrom (3 + n.val) (s.finishEdge n b t e f) := by
  have hcyc : (s.triggerEdge n t e).1.cyc = s.cyc := by simp
  rw [State.finishEdge_eq]
  dsimp only
  split
  · exact .of_insert (by rw [hcyc]) le_rfl
  · exact .of_eq (congrArg Cycle.offers hcyc)

theorem State.completeEdge_offers (n : Fin 6) (c : Completion) (s : State) :
    s.OffersFrom 2 (s.completeEdge n c) := by
  have hfinish : ∀ (t : State) b tm e f, t.OffersFrom 2 (t.finishEdge n b tm e f) := fun t b tm e f =>
    (t.finishEdge_offers n b tm e f).mono (by omega)
  unfold State.completeEdge
  split
  next w _ =>
    split
    · have hload : s.OffersFrom 2 (s.applyEdgeLoad w) := by
        obtain ⟨-, -, -, -, -, -, hcyc⟩ := s.applyEdgeLoad_spec w
        exact .of_insert (congrArg Cycle.offers hcyc) le_rfl
      exact hload.trans (hfinish _ _ _ _ _)
    · exact hfinish _ _ _ _ _
  next => exact hfinish _ _ _ _ _

/-- A sample that completes an edge which no load awaits offers its EDGE record alone (R47). -/
theorem State.takeCapture_offers (n : Fin 6) (s : State) :
    s.OffersFrom 2 (s.takeCapture n) ∧ (s.tb.awaited ≠ some n → s.OffersFrom (3 + n.val) (s.takeCapture n)) := by
  unfold State.takeCapture
  split
  · dsimp only
    split
    · exact ⟨.of_eq rfl, fun _ => .of_eq rfl⟩
    next c _ =>
      refine ⟨State.completeEdge_offers n c (s.setCap _), fun ha => ?_⟩
      have ha' : ∀ x, (s.setCap x).tb.awaited ≠ some n := fun _ => ha
      rw [State.completeEdge_unawaited (ha' _)]
      exact State.finishEdge_offers n _ _ _ _ (s.setCap _)
  · exact ⟨.of_eq rfl, fun _ => .of_eq rfl⟩

theorem State.fire_offers (order : ActionOrder) (i : Fin 32) (p : Plan) (k : Kept) (late : Bool) (s : State) :
    s.OffersFrom 9 (s.fire order i p k late) := by
  have hhand : (s.handAction order p.deed).cyc.offers = s.cyc.offers := by
    cases order <;> simp [State.handAction]
  have hlink : ((s.handAction order p.deed).followLink i p).1.cyc.offers = s.cyc.offers := by simp [hhand]
  rw [State.fire_eq]
  dsimp only [State.settleFire]
  split
  · exact .of_insert (by rw [hlink]) le_rfl
  · exact .of_eq hlink

theorem State.takeDispatch_offers (order : ActionOrder) (s : State) : s.OffersFrom 9 (s.takeDispatch order) := by
  unfold State.takeDispatch
  split
  · exact .of_eq rfl
  · unfold State.dispatchHead
    split
    · exact .of_eq rfl
    · split
      · exact State.fire_offers order _ _ _ _ (s.setCyc { s.cyc with decided := true })
      · exact .of_eq rfl

/-! ## The settled rank -/

theorem State.settledRank_guard (h : s.guardDue = true) : s.settledRank = 0 := if_pos h

theorem State.settledRank_le_two (h : s.cyc.wrapDue = true ∨ s.cyc.slewEndDue.isSome = true ∨ s.awaitedDue = true) :
    s.settledRank ≤ 2 := by
  unfold State.settledRank
  split
  · exact Nat.zero_le _
  · rw [if_pos (by rcases h with h | h | h <;> simp [h])]

theorem State.firstDue_le {n m : Fin 6} (h : (s.cap.get n).due = true) (hm : s.firstDue = some m) : m ≤ n := by
  obtain ⟨-, as, bs, heq, has⟩ := List.find?_eq_some_iff_append.1 hm
  have hn : n ∈ as ++ m :: bs := heq ▸ List.mem_finRange n
  rcases List.mem_append.1 hn with hmem | hmem
  · exact absurd (has n hmem) (by simp [h])
  · rcases List.mem_cons.1 hmem with rfl | hmem
    · exact le_rfl
    · have hsorted : (as ++ m :: bs).Pairwise (· < ·) := heq ▸ List.pairwise_lt_finRange 6
      exact ((List.pairwise_cons.1 (List.pairwise_append.1 hsorted).2.1).1 n hmem).le

theorem State.firstDue_ne_none {n : Fin 6} (h : (s.cap.get n).due = true) : s.firstDue ≠ none := fun hnone => by
  simpa [h] using List.find?_eq_none.1 hnone n (List.mem_finRange n)

theorem State.settledRank_le_line {n : Fin 6} (h : (s.cap.get n).due = true) : s.settledRank ≤ 3 + n.val := by
  unfold State.settledRank
  split
  · exact Nat.zero_le _
  · split
    · omega
    · split
      next m hm =>
        have hle : m.val ≤ n.val := State.firstDue_le h hm
        omega
      next hm => exact absurd hm (State.firstDue_ne_none h)

theorem State.settledRank_le_nine (h : s.cyc.decided = false) : s.settledRank ≤ 9 := by
  unfold State.settledRank
  split
  · exact Nat.zero_le _
  · split
    · decide
    · split
      · omega
      · simp [h]

end

/-! ## The port -/

theorem State.takeGuard_settled (s : State) : s.OffersFrom s.settledRank s.takeGuard := by
  cases h : s.guardDue with
  | true =>
    rw [State.settledRank_guard h]
    exact .zero
  | false => exact .of_eq (by rw [s.takeGuard_nothing h])

theorem State.takeWrap_settled (s : State) : s.OffersFrom s.settledRank s.takeWrap := by
  cases h : s.cyc.wrapDue with
  | true => exact s.takeWrap_offers.mono (State.settledRank_le_two (.inl h))
  | false => exact .of_eq (State.takeWrap_offers_unwrapped h)

theorem State.takeCapture_settled (n : Fin 6) (s : State) : s.OffersFrom s.settledRank (s.takeCapture n) := by
  cases hd : (s.cap.get n).due with
  | false => exact .of_eq (by simp [State.takeCapture, hd])
  | true =>
    obtain ⟨htwo, hline⟩ := s.takeCapture_offers n
    by_cases ha : s.tb.awaited = some n
    · exact htwo.mono (State.settledRank_le_two (.inr (.inr (by simp [State.awaitedDue, ha, hd]))))
    · exact (hline ha).mono (State.settledRank_le_line hd)

theorem State.takeDispatch_settled (order : ActionOrder) (s : State) : s.OffersFrom s.settledRank (s.takeDispatch order) := by
  cases h : s.cyc.decided with
  | true => exact .of_eq (by rw [s.takeDispatch_decided order h])
  | false => exact (s.takeDispatch_offers order).mono (State.settledRank_le_nine h)

theorem State.offerSlewEnd_settled (s : State) : s.OffersFrom s.settledRank s.offerSlewEnd := by
  cases h : s.cyc.slewEndDue with
  | none => exact .of_eq (by rw [s.offerSlewEnd_none h])
  | some a => exact s.offerSlewEnd_offers.mono (State.settledRank_le_two (.inr (.inl (by simp [h]))))

/-- Settles O41. -/
theorem portKeepsItsOrder : Obligations.PortKeepsItsOrder := by
  intro o os s rank
  have hrank : rank = Offer.rank := rfl
  clear_value rank
  subst hrank
  refine ⟨fun h => ⟨OffersSorted.insert h o, insertOffer_perm o os, filter_insertOffer h⟩, fun h => ?_, ?_,
    s.offerSlewEnd_settled⟩
  · subst h
    exact ⟨rfl, rfl⟩
  · rintro c t (rfl | rfl | ⟨n, rfl⟩ | ⟨order, rfl⟩) h
    · obtain rfl := Host.Outcome.next.inj h
      exact s.takeGuard_settled
    · obtain rfl := Host.Outcome.next.inj h
      exact s.takeWrap_settled
    · obtain rfl := Host.Outcome.next.inj h
      exact s.takeCapture_settled n
    · obtain rfl := Host.Outcome.next.inj h
      exact s.takeDispatch_settled order

end Sys2Proof.Machine
end

section
/-! The samples of the guard lines and the trip (R88, R122, R129, R148, R149, R151 to R153). -/
namespace Sys2Proof.Machine

section
variable (n : Fin 2) (s : State)

/-- Guard line `n` passes to ACTIVE by its sample of this cycle (R149). -/
def State.activates : Bool :=
  match (s.guard.lines.get n).due with
  | none => false
  | some terms =>
    (s.guard.lines.get n).state.activates (decide (s.guardLevel n = terms.activeLevel)) terms.qual.toNat

/-- The state of guard line `n` after its sample of this cycle, where one is due (R149). -/
def State.guardNext : GuardState :=
  match (s.guard.lines.get n).due with
  | none => (s.guard.lines.get n).state
  | some terms => (s.guard.lines.get n).state.sample (decide (s.guardLevel n = terms.activeLevel)) terms.qual.toNat

/-- The state after the sample of guard line `n`: the line, and with an activation its record, GTRIP and, in an untripped unit,
the trip (R149, R152, R153). -/
def State.guardSampled : State :=
  let trips := s.activates n && !s.guard.tripped
  { s with
    guard := { s.guard with
      lines := s.guard.lines.set n { s.guard.lines.get n with state := s.guardNext n, due := none }
      tripped := s.guard.tripped || s.activates n }
    disp := bif trips then { s.disp with holdGuard := true } else s.disp
    outs := bif trips then goSafe s.guard.safe s.outs else s.outs
    icu := { s.icu with flags := { s.icu.flags with
      gtrip := s.icu.flags.gtrip || (s.activates n && !s.resetLow) } }
    cyc := { s.cyc with
      offers := bif s.activates n then
          insertOffer { time := s.presented.time, epoch := s.presented.epoch, body := .guard n s.cyc.frozen } s.cyc.offers
        else s.cyc.offers } }

theorem State.activate_eq :
    s.activate n = { s with
      guard := { s.guard with tripped := true }
      disp := bif s.guard.tripped then s.disp else { s.disp with holdGuard := true }
      outs := bif s.guard.tripped then s.outs else goSafe s.guard.safe s.outs
      icu := { s.icu with flags := { s.icu.flags with gtrip := s.icu.flags.gtrip || !s.resetLow } }
      cyc := { s.cyc with
        offers := insertOffer
          { time := s.presented.time, epoch := s.presented.epoch, body := .guard n s.cyc.frozen } s.cyc.offers } } := by
  unfold State.activate
  dsimp only
  rw [State.raise_gtrip]
  by_cases h : s.guard.tripped = true
  · have hguard : s.guard = { s.guard with tripped := true } := by rw [← h]
    rw [if_pos (show (s.offer _).guard.tripped = true from h), ← hguard, h]
    rfl
  · rw [if_neg (show ¬(s.offer _).guard.tripped = true from h), Bool.eq_false_iff.2 h]
    rfl

theorem State.sampleGuard_eq : s.sampleGuard n = s.guardSampled n := by
  unfold State.sampleGuard State.guardSampled State.guardNext
  dsimp only
  cases hd : (s.guard.lines.get n).due with
  | none =>
    have ha : s.activates n = false := by rw [State.activates, hd]
    have hline : s.guard.lines.set n { s.guard.lines.get n with due := none } = s.guard.lines := by
      rw [← hd]
      exact Bank.set_get_self _ _
    simp [ha, hline]
  | some terms =>
    have ha : (s.guard.lines.get n).state.activates (decide (s.guardLevel n = terms.activeLevel)) terms.qual.toNat =
        s.activates n := by rw [State.activates, hd]
    have hcond : ∀ {α : Type} (x y : α), (bif s.guard.tripped then x else y) = bif !s.guard.tripped then y else x :=
      fun x y => by cases s.guard.tripped <;> rfl
    dsimp only
    rw [ha]
    cases s.activates n with
    | true =>
      rw [if_pos rfl, State.activate_eq, Bool.or_true, Bool.true_and, Bool.true_and, ← hcond, ← hcond]
      rfl
    | false =>
      simp only [Bool.false_eq_true, if_false, Bool.false_and, Bool.or_false]
      rfl

end

section
variable (s : State)

/-- The state after the samples of both guard lines (R149, R152, R153). -/
def State.guardTaken : State :=
  let any := s.activates 0 || s.activates 1
  let put (n : Fin 2) (os : List Offer) : List Offer :=
    bif s.activates n then
      insertOffer { time := s.presented.time, epoch := s.presented.epoch, body := .guard n s.cyc.frozen } os
    else os
  { s with
    guard := { s.guard with
      lines := .ofFn fun n => { s.guard.lines.get n with state := s.guardNext n, due := none }
      tripped := s.guard.tripped || any }
    disp := bif any && !s.guard.tripped then { s.disp with holdGuard := true } else s.disp
    outs := bif any && !s.guard.tripped then goSafe s.guard.safe s.outs else s.outs
    icu := { s.icu with flags := { s.icu.flags with gtrip := s.icu.flags.gtrip || (any && !s.resetLow) } }
    cyc := { s.cyc with offers := put 1 (put 0 s.cyc.offers) } }

theorem State.guardSampled_second :
    (s.guardSampled 0).activates 1 = s.activates 1 ∧ (s.guardSampled 0).guardNext 1 = s.guardNext 1 ∧
      (s.guardSampled 0).guard.lines.get 1 = s.guard.lines.get 1 := by
  have hline : (s.guardSampled 0).guard.lines.get 1 = s.guard.lines.get 1 := Bank.get_set_ne _ _ (by decide)
  refine ⟨?_, ?_, hline⟩
  · unfold State.activates
    rw [hline]
    rfl
  · unfold State.guardNext
    rw [hline]
    rfl

/-- Of two activations in one cycle the first alone trips (R153). -/
theorem cond_trip_once {α : Type} (a b tripped : Bool) (f : α → α) (x : α) :
    (bif b && !(tripped || a) then f (bif a && !tripped then f x else x) else bif a && !tripped then f x else x) =
      bif (a || b) && !tripped then f x else x := by
  cases a <;> cases b <;> cases tripped <;> rfl

theorem flag_twice (g a b c : Bool) : (g || (a && c) || (b && c)) = (g || ((a || b) && c)) := by
  cases c <;> simp [Bool.or_assoc]

theorem State.sampleGuards_eq : (s.sampleGuard 0).sampleGuard 1 = s.guardTaken := by
  obtain ⟨hact, hnext, hline⟩ := s.guardSampled_second
  have hlines : ((s.guardSampled 0).guard.lines.set 1
      { s.guard.lines.get 1 with state := s.guardNext 1, due := none }) =
        .ofFn fun n => { s.guard.lines.get n with state := s.guardNext n, due := none } :=
    Bank.ext_get fun i => by
      rw [Bank.get_ofFn, Bank.get_set]
      have hzero : (s.guardSampled 0).guard.lines.get 0 = { s.guard.lines.get 0 with state := s.guardNext 0, due := none } :=
        Bank.get_set_same _ _ _
      fin_cases i
      · exact hzero
      · rfl
  rw [State.sampleGuard_eq, State.sampleGuard_eq, State.guardSampled, hact, hnext, hline, hlines, State.guardTaken,
    ← cond_trip_once _ _ _ (fun d : Dispatcher => { d with holdGuard := true }), ← cond_trip_once _ _ _ (goSafe s.guard.safe),
    ← flag_twice, ← Bool.or_assoc]
  rfl

end

section
variable (s : State)

theorem State.deliverAction_eq :
    s.deliverAction = { s with
      cyc := { s.cyc with action := none }
      outs := match s.cyc.action with
        | none => s.outs
        | some d => if s.guard.tripped then s.outs else d.act s.outs } := by
  cases h : s.cyc.action with
  | none =>
    have hcyc : s.cyc = { s.cyc with action := none } := by rw [← h]
    rw [s.deliverAction_nothing h, ← hcyc]
  | some d =>
    have hdeliver : s.deliverAction = (s.setCyc { s.cyc with action := none }).takeAction d := by
      unfold State.deliverAction
      rw [h]
    rw [hdeliver]
    unfold State.takeAction
    change (if s.guard.tripped then _ else _) = _
    by_cases ht : s.guard.tripped = true
    · simp only [ht, if_true]
      rfl
    · simp only [ht]
      rfl

/-- A tripped unit discards an action that waited for the trip (R122). -/
theorem State.deliverAction_tripped (h : s.guard.tripped = true) :
    s.deliverAction = { s with cyc := { s.cyc with action := none } } := by
  rw [State.deliverAction_eq]
  cases s.cyc.action <;> simp only [h, if_true]

theorem State.guardDue_iff : s.guardDue = true ↔ ∃ n, (s.guard.lines.get n).due ≠ none := by
  have hall := Bank.all_iff s.guard.lines fun l => l.due.isNone
  simp only [Option.isNone_iff_eq_none] at hall
  rw [State.guardDue, Bool.not_eq_true', Bool.eq_false_iff, Ne, hall, not_forall]

theorem State.takeGuard_due (h : s.guardDue = true) : s.takeGuard = s.guardTaken.deliverAction := by
  rw [State.takeGuard, if_pos h, State.sampleGuards_eq]

end

section
variable {n : Fin 2} {s : State}

/-- A line that activates has a sample due and was INACTIVE or QUALIFYING toward ACTIVE (R149). -/
theorem State.activates_iff :
    s.activates n = true ↔ ∃ terms, (s.guard.lines.get n).due = some terms ∧ s.guardLevel n = terms.activeLevel ∧
      ((s.guard.lines.get n).state = .inactive ∧ terms.qual.toNat ≤ 1 ∨
        ∃ c, (s.guard.lines.get n).state = .toActive c ∧ terms.qual.toNat ≤ c + 1) := by
  unfold State.activates
  cases (s.guard.lines.get n).due with
  | none => simp
  | some terms =>
    cases (s.guard.lines.get n).state <;> by_cases hl : s.guardLevel n = terms.activeLevel <;>
      simp [hl, GuardState.activates]

theorem State.guardNext_of_activates (h : s.activates n = true) : s.guardNext n = .active := by
  obtain ⟨terms, hdue, hlevel, ⟨hstate, hq⟩ | ⟨c, hstate, hq⟩⟩ := State.activates_iff.1 h
  · simp [State.guardNext, hdue, hlevel, hstate, GuardState.sample, hq]
  · simp [State.guardNext, hdue, hlevel, hstate, GuardState.sample, hq]

/-- Where neither line activates, the samples reach nothing but the lines. -/
theorem State.guardTaken_quiet (h : ∀ n, s.activates n = false) :
    s.guardTaken = { s with guard := { s.guard with
      lines := .ofFn fun n => { s.guard.lines.get n with state := s.guardNext n, due := none } } } := by
  simp [State.guardTaken, h]

end

/-- Settles O44. -/
theorem guardSampleMovesTheLines : Obligations.GuardSampleMovesTheLines := by
  unfold Obligations.GuardSampleMovesTheLines
  intro s next hdue hok
  have hnext : ∀ n, next n = s.guardNext n := fun n => by
    obtain ⟨-, -, -, hterms⟩ := hok n
    unfold next State.guardNext
    dsimp only
    cases hd : (s.guard.lines.get n).due with
    | none => rfl
    | some terms =>
      have hq : terms.qual.toNat = 1 ↔ terms.qual.toNat ≤ 1 := by
        have := (hterms terms hd).1
        omega
      dsimp only
      rw [State.guardLevel]
      generalize decide (Level.ofBool (s.pins.sampled.grd.getLsbD n.val) = terms.activeLevel) = active
      cases (s.guard.lines.get n).state <;> cases active <;> simp only [GuardState.sample, hq]
  have hexec : exec .guardSample s = .next s.guardTaken.deliverAction :=
    congrArg Host.Outcome.next (s.takeGuard_due (s.guardDue_iff.2 hdue))
  refine ⟨_, hexec, ?_, ?_⟩
  · intro n
    simp only [State.deliverAction_frame, State.guardTaken, Bank.get_ofFn, hnext]
  refine ⟨by simp only [State.deliverAction_frame]; rfl, by simp only [State.deliverAction_frame]; rfl,
    by simp only [State.deliverAction_frame]; rfl, by simp only [State.deliverAction_frame]; rfl,
    by simp only [State.deliverAction_frame]; rfl, by simp only [State.deliverAction_frame]; rfl,
    by simp only [State.deliverAction_frame]; rfl, by simp only [State.deliverAction_frame]; rfl, fun hquiet => ?_⟩
  have hnone : ∀ n, s.activates n = false := fun n => by
    by_contra hact
    have hact : s.activates n = true := by simpa using hact
    obtain ⟨terms, -, -, hstate⟩ := State.activates_iff.1 hact
    rcases hquiet n ((hnext n).trans (State.guardNext_of_activates hact)) with hold | ⟨c, hold⟩ <;> simp [hold] at hstate
  rw [State.guardTaken_quiet hnone, State.deliverAction_eq]
  exact ⟨rfl, rfl, rfl, rfl, rfl⟩

/-- Settles O45. -/
theorem activationTripsTheUnit : Obligations.ActivationTripsTheUnit := by
  unfold Obligations.ActivationTripsTheUnit
  intro s activates put hact
  have hactivates : ∀ n, activates n = s.activates n := fun n => by
    unfold activates State.activates
    cases (s.guard.lines.get n).due with
    | none => rfl
    | some terms =>
      dsimp only
      rw [State.guardLevel]
      generalize decide (Level.ofBool (s.pins.sampled.grd.getLsbD n.val) = terms.activeLevel) = active
      cases (s.guard.lines.get n).state <;> cases active <;> rfl
  have hput : ∀ n os, put n os = bif s.activates n then
      insertOffer { time := s.presented.time, epoch := s.presented.epoch, body := .guard n s.cyc.frozen } os else os :=
    fun n os => by
      unfold put
      rw [hactivates, Bool.cond_eq_ite]
  simp only [hactivates] at hact ⊢
  have hany : (s.activates 0 || s.activates 1) = true := by
    obtain ⟨n, hn⟩ := hact
    fin_cases n <;> simp_all
  have hdue : s.guardDue = true := by
    obtain ⟨n, hn⟩ := hact
    obtain ⟨terms, hterms, -⟩ := State.activates_iff.1 hn
    exact s.guardDue_iff.2 ⟨n, by simp [hterms]⟩
  have htrip : s.guardTaken.guard.tripped = true := by
    simp only [State.guardTaken, hany, Bool.or_true]
  have hexec : exec .guardSample s = .next { s.guardTaken with cyc := { s.guardTaken.cyc with action := none } } :=
    congrArg Host.Outcome.next ((s.takeGuard_due hdue).trans (s.guardTaken.deliverAction_tripped htrip))
  refine ⟨_, hexec, ?_, htrip, ?_, ?_, ?_, ?_, rfl, rfl, rfl, rfl, rfl⟩
  · intro n hn
    simp only [State.guardTaken, Bank.get_ofFn, State.guardNext_of_activates hn]
  · simp only [State.guardTaken, hany, Bool.true_and]
  · simp only [State.guardTaken, hput]
  · intro h
    simp only [State.guardTaken, hany, h, Bool.not_true, Bool.and_false, cond_false, and_self]
  · intro h
    simp only [State.guardTaken, hany, h, Bool.not_false, Bool.and_true, cond_true, true_and]
    intro i
    rw [goSafe_get]
    unfold OutLine.force SafeLevel.apply
    cases s.guard.safe.get i <;> rfl

end Sys2Proof.Machine
end

section
/-! The end of a REFCLK cycle (R115, R164, R170, R171). -/
namespace Sys2Proof.Machine

/-! ## Runs of events -/

theorem State.Runs.append {cs ds : List Instr} {s t u : State} (h : State.Runs cs s t) (hd : State.Runs ds t u) :
    State.Runs (cs ++ ds) s u := by
  induction cs generalizing s with
  | nil =>
    cases h
    exact hd
  | cons c cs ih =>
    obtain ⟨v, hv, hrest⟩ := h
    exact ⟨v, hv, ih hrest⟩

theorem State.Runs.of_exec {c : Instr} {s t : State} (h : exec c s = .next t) : State.Runs [c] s t := ⟨t, h, rfl⟩

/-- A run over a list of lines is the fold of the row's effect. -/
theorem State.Runs.of_foldl {α : Type} {c : α → Instr} (f : State → α → State) (h : ∀ s n, exec (c n) s = .next (f s n))
    (ns : List α) (s : State) : State.Runs (ns.map c) s (ns.foldl f s) := by
  induction ns generalizing s with
  | nil => exact rfl
  | cons n ns ih => exact ⟨_, h s n, ih _⟩

/-- A change of every line in turn is the change of the bank. -/
theorem Bank.foldl_modify {α : Type} {n : Nat} (f : α → α) (b : Bank α n) :
    (List.finRange n).foldl (fun b i => b.modify i f) b = b.map f := by
  have hget : ∀ (ns : List (Fin n)) (b : Bank α n) (i : Fin n), ns.Nodup →
      (ns.foldl (fun b i => b.modify i f) b).get i = if i ∈ ns then f (b.get i) else b.get i := by
    intro ns
    induction ns with
    | nil => exact fun b i _ => by simp
    | cons j ns ih =>
      intro b i hnodup
      obtain ⟨hj, hns⟩ := List.nodup_cons.1 hnodup
      rw [List.foldl_cons, ih _ i hns]
      by_cases hij : i = j
      · subst hij
        simp [hj]
      · simp [hij, Bank.get_modify_ne b f (Ne.symm hij)]
  refine Bank.ext_get fun i => ?_
  rw [hget _ b i (List.nodup_finRange n), if_pos (List.mem_finRange i), Bank.get_map]

theorem State.foldl_endPulse (s : State) : (List.finRange 8).foldl (fun s n => s.endPulse n) s = s.endPulses := by
  have hstate : ∀ (ns : List (Fin 8)) (x : State), ns.foldl (fun s n => s.endPulse n) x =
      x.setOuts (ns.foldl (fun b i => b.modify i OutLine.endPulse) x.outs) := by
    intro ns
    induction ns with
    | nil => exact fun x => rfl
    | cons n ns ih => exact fun x => ih (x.endPulse n)
  rw [hstate, Bank.foldl_modify]
  rfl

section
variable (s : State)

/-- The samples and the wrap that no command has taken, as their rows take them. -/
theorem State.runs_samples :
    State.Runs ([.guardSample] ++ (List.finRange 6).map .captureSample ++ [.wrap]) s s.takeSamples.takeWrap :=
  ((State.Runs.of_exec rfl).append (.of_foldl (fun s n => s.takeCapture n) (fun _ _ => rfl) _ _)).append (.of_exec rfl)

/-- The pulse ends, the decision and the end of a trim window that no command has taken, as their rows take them. -/
theorem State.runs_ends :
    State.Runs ((List.finRange 8).map .pulseEnd ++ [.dispatch .actionFirst, .trimWindowEnd]) s
      (s.endPulses.takeDispatch .actionFirst).endWindow := by
  have hends : State.Runs ((List.finRange 8).map .pulseEnd) s s.endPulses :=
    s.foldl_endPulse ▸ .of_foldl (fun s n => s.endPulse n) (fun _ _ => rfl) _ _
  exact hends.append ⟨_, rfl, _, rfl, rfl⟩

end

/-! ## The pins -/

section
variable (s : State)

theorem State.irqLow_iff : s.irqLow = true ↔
    s.trq.threshold.toNat ≤ s.trq.records.length ∧ s.icu.enables.getLsbD 0 = true ∨
    s.icu.flags.qloss = true ∧ s.icu.enables.getLsbD 1 = true ∨
    s.icu.flags.sfault = true ∧ s.icu.enables.getLsbD 2 = true ∨
    s.icu.flags.gtrip = true ∧ s.icu.enables.getLsbD 3 = true ∨
    s.icu.flags.tbevt = true ∧ s.icu.enables.getLsbD 4 = true ∨
    s.icu.flags.cmderr = true ∧ s.icu.enables.getLsbD 5 = true := by
  have hbit : s.irqLow = true ↔ ∃ k, (s.pendingByte &&& s.icu.enables.setWidth 8).getLsbD k = true := by
    rw [State.irqLow, bne_iff_ne, Ne, ← not_iff_not, not_not, not_exists]
    constructor
    · intro h k
      simp [h]
    · intro h
      refine BitVec.eq_of_getLsbD_eq fun k _ => ?_
      simpa using h k
  rw [hbit]
  simp only [BitVec.getLsbD_and, State.pendingByte_getLsbD, BitVec.getLsbD_setWidth, State.qlevel]
  constructor
  · rintro ⟨k, hk⟩
    simp only [Bool.and_eq_true, Bool.or_eq_true, decide_eq_true_eq] at hk
    obtain ⟨hflag, -, henable⟩ := hk
    rcases hflag with ((((⟨h, rfl⟩ | ⟨h, rfl⟩) | ⟨h, rfl⟩) | ⟨h, rfl⟩) | ⟨h, rfl⟩) | ⟨h, rfl⟩ <;> simp [h, henable]
  · rintro (h | h | h | h | h | h)
    · exact ⟨0, by simp [h]⟩
    · exact ⟨1, by simp [h]⟩
    · exact ⟨2, by simp [h]⟩
    · exact ⟨3, by simp [h]⟩
    · exact ⟨4, by simp [h]⟩
    · exact ⟨5, by simp [h]⟩

theorem Timebase.endSlew_eq (tb : Timebase) :
    tb.endSlew = { tb with state := if tb.state = .slewEnding then .running else tb.state } := by
  unfold Timebase.endSlew
  split
  next h => rw [if_pos h]
  next h => rw [if_neg h]

/-- The state that the pins show at the end of a cycle: every event taken, the offers in the queue, the read byte fetched. -/
def State.settled : State :=
  (((s.takeSamples.takeWrap.offerSlewEnd.deliverAction.endPulses).takeDispatch .actionFirst).endWindow).drainAll.fetch

theorem State.endCycle_eq : s.endCycle = s.settled.refreshPins.setTb s.settled.tb.endSlew := by
  have hpins : ∀ x : State, x.refreshPins.setTb x.refreshPins.tb.endSlew = x.refreshPins.setTb x.tb.endSlew := fun _ => rfl
  rw [← hpins]
  simp only [State.endCycle, State.settled]

theorem State.showPins_eq : s.refreshPins.setTb s.tb.endSlew =
    { s with
      pins := s.refreshPins.pins
      tb := { s.tb with state := if s.tb.state = .slewEnding then .running else s.tb.state } } := by
  rw [Timebase.endSlew_eq]
  rfl

theorem State.settled_pins : s.settled.pins = s.pins := by simp [State.settled]

end

section
variable {s : State}

theorem State.takeSamples_nothing (hcap : ∀ n, (s.cap.get n).due = false) (hguard : ∀ n, (s.guard.lines.get n).due = none) :
    s.takeSamples = s := by
  have hdue : s.guardDue = false := by
    rw [← Bool.not_eq_true, State.guardDue_iff]
    simpa using hguard
  have hfold : ∀ ns : List (Fin 6), ns.foldl (fun s n => s.takeCapture n) s = s := by
    intro ns
    induction ns with
    | nil => rfl
    | cons n ns ih =>
      rw [List.foldl_cons, State.takeCapture, if_neg (by simp [hcap n]), ih]
  rw [State.takeSamples, s.takeGuard_nothing hdue, hfold]

theorem State.endPulses_nothing (h : ∀ n, ∀ p ∈ (s.outs.get n).pulse, p.remaining ≠ 0) : s.endPulses = s := by
  have houts : s.outs.map OutLine.endPulse = s.outs := Bank.ext_get fun n => by
    rw [Bank.get_map]
    unfold OutLine.endPulse
    split
    next p hp => exact if_neg (h n p hp)
    next => rfl
  rw [State.endPulses, houts, State.setOuts_same]

/-- Where every event of the cycle has been taken, its end takes none. -/
theorem State.settled_of_done (h : s.CycleDone) : s.settled = s := by
  obtain ⟨hcap, hpulse, hposition, -, hwrap, hslew, hnotices, hguard, hdecided, haction, hoffers, hfetch⟩ := h
  have hwraps : s.wraps = false := by rw [State.wraps, hwrap, Bool.false_and]
  have hwindow : s.endWindow = s := by
    rw [State.endWindow, Timebase.endWindow, if_neg (by omega), State.setTb_same]
  have hdrain : s.drainAll = s := by
    have hcyc : { s.cyc with offers := [] } = s.cyc := by rw [← hoffers]
    rw [State.drainAll, hcyc, hoffers]
    rfl
  have hnofetch : s.fetch = s := by
    unfold State.fetch
    rw [hfetch]
  rw [State.settled, State.takeSamples_nothing hcap hguard, s.takeWrap_nothing hwraps hnotices, s.offerSlewEnd_none hslew,
    s.deliverAction_nothing haction, State.endPulses_nothing hpulse, s.takeDispatch_decided _ hdecided, hwindow, hdrain,
    hnofetch]

end

/-- Settles O11. -/
theorem endOfCycleShowsThePins : Obligations.EndOfCycleShowsThePins := by
  unfold Obligations.EndOfCycleShowsThePins
  intro s acted
  have hacted : ∀ y : State, acted y = y.deliverAction := fun y => by
    unfold acted
    rw [State.deliverAction_eq]
    cases h : y.cyc.action with
    | none =>
      have hcyc : y.cyc = { y.cyc with action := none } := by rw [← h]
      exact congrArg (fun c => { y with cyc := c }) hcyc
    | some d => rfl
  have hpins := s.settled_pins
  have hdone : s.CycleDone → s.settled = s := State.settled_of_done
  refine ⟨_, _, s.settled, s.settled.refreshPins.pins, s.runs_samples, hacted _ ▸ State.runs_ends _, rfl, ?_⟩
  rw [s.endCycle_eq, State.showPins_eq]
  generalize s.settled = x at hpins hdone
  have hmiso : x.refreshPins.pins.miso = x.miso := rfl
  rw [← hpins, hmiso, State.miso]
  refine ⟨rfl, rfl, rfl, rfl, fun n => Bank.get_map _ _ n, ?_, ?_, ?_, x.irqLow_iff, ?_⟩
  · rintro (hcs | htx)
    · rw [hcs, if_neg Bool.false_ne_true]
    · rw [htx, ite_self]
  · rintro hcs (htx | ⟨a, htx⟩) <;> rw [if_pos hcs, htx]
  · intro hcs a src htx
    rw [if_pos hcs, htx]
  · intro h
    rw [hdone h]
    obtain ⟨-, -, -, hstate, -⟩ := h
    rw [if_neg hstate]

end Sys2Proof.Machine
end

section
/-! A data byte by address (R171, R173, R174, R175). -/
namespace Sys2Proof.Machine

section
variable {s : State} {addr : Addr} {arg : Byte}

/-- The pointer stays at a strobe (R172). -/
theorem State.stepWrite_strobe (ha : 0x68 ≤ addr.toNat ∧ addr.toNat < 0x7D) (s : State) : s.stepWrite addr = s := by
  have hnext : nextAddr s.sp.page addr = addr := by
    unfold nextAddr
    dsimp only
    rw [if_neg (by omega), if_neg (by omega), if_neg (by omega), if_neg (by omega), if_pos ha]
  unfold State.stepWrite
  split
  next pointer htx =>
    split
    next hp =>
      have hsp : { s.sp with tx := .writing (nextAddr s.sp.page addr) } = s.sp := by rw [hnext, ← hp, ← htx]
      rw [hsp]
      rfl
    next => rfl
  next => rfl

/-- A byte at a strobe address is that strobe's command (R174). -/
theorem exec_registerWrite_strobe {code : Byte} {owner : State → State × ResultCode}
    (ha : 0x68 ≤ addr.toNat ∧ addr.toNat < 0x7D) (h : s.strobe addr.toNat arg = s.command code owner) :
    exec (.registerWrite addr arg) s = .next (s.command code owner) := by
  have hdeliver : s.deliverByte addr arg = s.command code owner := by
    unfold State.deliverByte
    dsimp only
    rw [if_neg (by omega), if_neg (by omega), if_neg (by omega), if_neg (by omega), if_pos ha.2, h]
  by_cases hs : s.takesBytes = true
  · rw [exec_registerWrite hs, hdeliver, State.stepWrite_strobe ha]
  · rw [State.command, if_neg hs]
    exact congrArg Host.Outcome.next (if_neg hs)

/-- A byte at an address of the selected page is the write of that register (R173, R175). -/
theorem exec_registerWrite_paged {page : Fin 3} {owner : State → State} (hp : s.sp.page = page)
    (h : s.deliverByte addr arg = owner s) : exec (.registerWrite addr arg) s = .next (s.writePaged page addr owner) := by
  have hwrite : s.writeByte addr arg = s.writePaged page addr owner := by
    unfold State.writeByte State.writeAt State.writePaged
    rw [if_pos hp, h]
  exact congrArg Host.Outcome.next hwrite

theorem State.deliverByte_page1 (hp : s.sp.page = 1) (ha : 0x08 ≤ addr.toNat) (ha' : addr.toNat < 0x38) :
    s.deliverByte addr arg = s.writePage1 addr.toNat arg := by
  unfold State.deliverByte
  dsimp only
  rw [if_neg (by omega), if_pos ha', hp]
  rfl

theorem State.deliverByte_page2 (hp : s.sp.page = 2) (ha : 0x08 ≤ addr.toNat) (ha' : addr.toNat < 0x38) :
    s.deliverByte addr arg = s.writePage2 addr.toNat arg := by
  unfold State.deliverByte
  dsimp only
  rw [if_neg (by omega), if_pos ha', hp]
  rfl

/-- A byte at place `i` of capture line `n` in page 1 is the write of that register (R175, R180). -/
theorem exec_registerWrite_capture (hp : s.sp.page = 1) (n : Fin 6) {i : Nat} (hi : i < 7) {owner : State → State}
    (h : s.writePage1 (8 + 7 * n.val + i) arg = owner s) :
    exec (.registerWrite (capAddr n i) arg) s = .next (s.writePaged 1 (capAddr n i) owner) := by
  have hn := n.isLt
  have haddr : (capAddr n i).toNat = 8 + 7 * n.val + i := by
    rw [capAddr, BitVec.toNat_ofNat]
    omega
  refine exec_registerWrite_paged hp ?_
  rw [State.deliverByte_page1 hp (by omega) (by omega), haddr, h]

/-- A read-only or unmapped address takes no byte (R175, R180). -/
theorem State.deliverByte_ignored (h : ignoresWrites s.sp.page addr) : s.deliverByte addr arg = s := by
  unfold State.deliverByte
  dsimp only
  rcases h with ha | ⟨ha, ha'⟩ | ⟨hp, ha, ha'⟩ | ⟨hp, ha, ha'⟩ | ⟨hp, ha, ha'⟩
  · rw [if_pos ha]
  · rw [if_neg (by omega), if_neg (by omega), if_pos ha']
  · rw [if_neg (by omega), if_pos ha', hp]
    rfl
  · rw [if_neg (by omega), if_pos ha', hp]
    exact dif_neg (by omega)
  · rw [if_neg (by omega), if_pos ha', hp]
    change s.writePage2 addr.toNat arg = s
    unfold State.writePage2
    split
    case h_12 => rfl
    all_goals omega

end

/-- Settles O51. -/
theorem strobeBytesIssueTheirCommands : Obligations.StrobeBytesIssueTheirCommands := by
  unfold Obligations.StrobeBytesIssueTheirCommands
  intro arg s
  refine ⟨?strobes, fun hp n => ?capture, fun hp => ⟨fun n => ?guard, ?trimHigh, ?trimLow, ?trimWindow, ?rate, ?queue⟩, rfl, rfl,
    rfl, fun addr hignored hs => ?ignored⟩
  case strobes =>
    refine ⟨?_, ?_, ?_, ?_, ?_, ?_, ?_, ?_, ?_, ?_, ?_, ?_, ?_, ?_, ?_, ?_, ?_, ?_, ?_, ?_, ?_⟩
    all_goals exact exec_registerWrite_strobe (by decide) rfl
  case capture =>
    refine ⟨?_, ?_, ?_, ?_, ?_, ?_, ?_⟩
    · have hcontrol : exec (.registerWrite (capAddr n 0) arg) s = .next (s.writePaged 1 (capAddr n 0)
          (State.writeCapControl n (arg.getLsbD 0) (arg.extractLsb' 1 3) (arg.extractLsb' 4 3))) :=
        exec_registerWrite_capture hp n (by decide) (by fin_cases n <;> rfl)
      refine hcontrol.trans ?_
      cases arg.getLsbD 0 <;> rfl
    all_goals exact exec_registerWrite_capture hp n (by decide) (by fin_cases n <;> rfl)
  case guard =>
    have hguard : exec (.registerWrite (BitVec.ofNat 7 (0x0A + n.val)) arg) s =
        .next (s.writePaged 2 (guardAddr n) (State.writeGuardByte n arg)) := by
      fin_cases n <;> exact exec_registerWrite_paged hp (State.deliverByte_page2 hp (by decide) (by decide))
    refine ⟨hguard.trans ?_, ?_⟩
    · have hbyte : State.writeGuardByte n arg = State.writeGuardLine n (arg.getLsbD 0)
          (if arg.getLsbD 1 then .high else .low) (arg.extractLsb' 4 4) := by
        rw [← Level.ofBool_eq]
        rfl
      rw [hbyte]
      cases arg.getLsbD 0 <;> rfl
    · fin_cases n <;> exact exec_registerWrite_paged hp (State.deliverByte_page2 hp (by decide) (by decide))
  case ignored =>
    rw [exec_registerWrite hs, State.deliverByte_ignored hignored]
  all_goals exact exec_registerWrite_paged hp (State.deliverByte_page2 hp (by decide) (by decide))

end Sys2Proof.Machine
end

section
/-! The address byte (R138, R170, R171, R176, R177). -/
namespace Sys2Proof.Machine

section
variable {s : State} {x : Byte} {addr : Addr}

/-- Without a transaction the address byte opens one (R170). -/
theorem State.addressByte_opens (hr : s.resetLow = false) (h : s.sp.tx = .idle ∨ s.sp.tx = .addressing) :
    s.addressByte x = s.openTransaction x := by
  unfold State.addressByte
  rw [if_neg (by simp [hr])]
  rcases h with h | h <;> rw [h]

theorem State.openTransaction_write (hx : x.getLsbD 7 = false) :
    s.openTransaction x = { s with sp := { s.sp with tx := .writing (x.setWidth 7) } } := by
  rw [State.openTransaction, if_neg (Bool.eq_false_iff.1 hx)]
  rfl

theorem State.openTransaction_read (hx : x.getLsbD 7 = true) (ha : x.setWidth 7 = addr) :
    s.openTransaction x = s.startRead addr := by
  rw [State.openTransaction, if_pos hx, ha]

/-- Outside the time window and the head window a read takes live bytes (R171). -/
theorem State.startRead_live (ht : inTimeWindow addr = false) (hh : inHeadWindow addr = false) :
    s.startRead addr = { s with sp := { s.sp with tx := .reading addr .live, fetchDue := true } } := by
  rw [State.startRead, if_neg (of_decide_eq_false ht), if_neg (of_decide_eq_false hh)]
  rfl

theorem State.startRead_time (h : addr.toNat < 0x08) :
    s.startRead addr = { s with sp := { s.sp with
      tx := .reading addr .snapshot
      fetchDue := true
      snapshot := { time := s.presented.time, epoch := s.presented.epoch, status := s.presented.status } } } := by
  rw [State.startRead, if_pos h]
  rfl

theorem State.startRead_head (h : 0x38 ≤ addr.toNat ∧ addr.toNat < 0x48) :
    s.startRead addr = { s.drainReady with sp := { s.sp with
      tx := .reading addr (.head s.drainReady.trq.records.head? false)
      fetchDue := true } } := by
  have hsp : s.drainReady.sp = s.sp := by simp
  rw [State.startRead, if_neg (by omega), if_pos h, State.openRead, hsp]
  rfl

end

/-- The byte of TIME_SNAPSHOT is a read address in the time window (R176). -/
theorem timeSnapshot_byte (o : BitVec 3) : (0x80 ||| o.setWidth 8 : Byte).getLsbD 7 = true ∧
    (0x80 ||| o.setWidth 8 : Byte).setWidth 7 = o.setWidth 7 ∧ (o.setWidth 7).toNat < 0x08 := by
  revert o
  decide

/-- The byte of HEAD_LATCH is a read address in the head window (R138). -/
theorem headLatch_byte (o : BitVec 4) : (0xB8 + o.setWidth 8 : Byte).getLsbD 7 = true ∧
    (0xB8 + o.setWidth 8 : Byte).setWidth 7 = 0x38 + o.setWidth 7 ∧
      (0x38 ≤ (0x38 + o.setWidth 7).toNat ∧ (0x38 + o.setWidth 7).toNat < 0x48) := by
  revert o
  decide

/-- Settles O52. -/
theorem addressByteOpensTheTransaction : Obligations.AddressByteOpensTheTransaction := by
  unfold Obligations.AddressByteOpensTheTransaction
  intro s hr d command
  refine ⟨fun htx => ⟨fun x hx => ?_, fun x hx hwf => ?_, fun o => ?_, fun o => ?_⟩, fun x c hc => ?_⟩
  · exact congrArg Host.Outcome.next ((State.addressByte_opens hr htx).trans (State.openTransaction_write hx))
  · have hplain : inTimeWindow (x.setWidth 7) = false ∧ inHeadWindow (x.setWidth 7) = false := by
      rw [Instr.wf, hx, Bool.true_and, Bool.not_eq_true', Bool.or_eq_false_iff] at hwf
      exact hwf
    exact congrArg Host.Outcome.next (((State.addressByte_opens hr htx).trans (State.openTransaction_read hx rfl)).trans
      (State.startRead_live hplain.1 hplain.2))
  · obtain ⟨hread, haddr, hwindow⟩ := timeSnapshot_byte o
    exact congrArg Host.Outcome.next (((State.addressByte_opens hr htx).trans (State.openTransaction_read hread haddr)).trans
      (State.startRead_time hwindow))
  · obtain ⟨hread, haddr, hwindow⟩ := headLatch_byte o
    exact congrArg Host.Outcome.next (((State.addressByte_opens hr htx).trans (State.openTransaction_read hread haddr)).trans
      (State.startRead_head hwindow))
  · have hexec : exec c s = .next (s.addressByte x) := by
      rcases hc with rfl | ⟨o, rfl, rfl⟩ | ⟨o, rfl, rfl⟩ <;> rfl
    rw [hexec]
    unfold State.addressByte
    rw [if_neg (by simp [hr])]
    refine ⟨fun p h => ?_, fun p src h => ?_, fun h => ?_⟩ <;> rw [h] <;> rfl

end Sys2Proof.Machine
end

section
/-! The staging record reads as written (R9, R65, R175, R180). -/
namespace Sys2Proof.Machine

/-! ## The bytes of the record -/

section
variable (g : Staging) (t : StagedTime) {i j : Nat} (data : Byte)

/-- From byte 3 on the record holds whole multi-byte fields (R180). -/
theorem stagingByte_field (h : 3 ≤ i) :
    stagingByte g t i =
      if i < 10 then byteOf 7 (i - 3) g.due
      else if i < 13 then byteOf 3 (i - 10) g.width
      else if i < 18 then byteOf 5 (i - 13) g.period
      else if i < 20 then byteOf 2 (i - 18) g.limit
      else if i < 25 then byteOf 5 (i - 20) g.linkOffset
      else byteOf 7 (i - 25) t.value := by
  obtain ⟨k, rfl⟩ := Nat.exists_eq_add_of_le' h
  rfl

theorem Staging.write_field (h : 3 ≤ i) :
    g.write i data =
      if i < 10 then { g with due := withByte 7 (i - 3) data g.due }
      else if i < 13 then { g with width := withByte 3 (i - 10) data g.width }
      else if i < 18 then { g with period := withByte 5 (i - 13) data g.period }
      else if i < 20 then { g with limit := withByte 2 (i - 18) data g.limit }
      else if i < 25 then { g with linkOffset := withByte 5 (i - 20) data g.linkOffset }
      else g := by
  obtain ⟨k, rfl⟩ := Nat.exists_eq_add_of_le' h
  rfl

theorem StagedTime.write_zero : t.write 0 data = { t with negative := data.getLsbD 7 } := rfl

theorem StagedTime.write_early (h : 1 ≤ i) (h' : i < 25) : t.write i data = t := by
  rw [StagedTime.write, if_neg (by omega), if_pos h']

theorem StagedTime.write_value (h : 25 ≤ i) : t.write i data = { t with value := withByte 7 (i - 25) data t.value } := by
  rw [StagedTime.write, if_neg (by omega), if_neg (by omega)]

theorem stagingByte_write_field_same (h : 3 ≤ i) (h' : i < 32) : stagingByte (g.write i data) (t.write i data) i = data := by
  rw [stagingByte_field _ _ h, Staging.write_field g data h]
  by_cases hi : i < 25
  · split_ifs <;> simp (disch := omega) only [byteOf_withByte_same]
  · rw [StagedTime.write_value t data (by omega)]
    split_ifs <;> simp (disch := omega) only [byteOf_withByte_same]

/-- What a write of byte `i` makes of the field of `n` bytes from byte `lo` on. -/
def writtenField {w : Nat} (lo n i : Nat) (data : Byte) (x : BitVec w) : BitVec w :=
  if lo ≤ i ∧ i < lo + n then withByte n (i - lo) data x else x

theorem byteOf_writtenField_ne {w : Nat} (lo n : Nat) (x : BitVec w) (hj : lo ≤ j ∧ j < lo + n) (hij : i ≠ j) :
    byteOf n (j - lo) (writtenField lo n i data x) = byteOf n (j - lo) x := by
  unfold writtenField
  split_ifs with hi
  · exact byteOf_withByte_ne n _ _ data x (by omega) (by omega) (by omega)
  · rfl

theorem Staging.write_fields (h : 3 ≤ i) :
    (g.write i data).due = writtenField 3 7 i data g.due ∧ (g.write i data).width = writtenField 10 3 i data g.width ∧
      (g.write i data).period = writtenField 13 5 i data g.period ∧ (g.write i data).limit = writtenField 18 2 i data g.limit ∧
        (g.write i data).linkOffset = writtenField 20 5 i data g.linkOffset := by
  rw [Staging.write_field g data h]
  unfold writtenField
  refine ⟨?_, ?_, ?_, ?_, ?_⟩ <;> grind

theorem StagedTime.write_fields (h : 3 ≤ i) (hi : i < 32) : (t.write i data).value = writtenField 25 7 i data t.value := by
  unfold StagedTime.write writtenField
  grind

theorem stagingByte_write_field_ne (h : 3 ≤ i) (hi : i < 32) (hj : 3 ≤ j) (hj' : j < 32) (hij : i ≠ j) :
    stagingByte (g.write i data) (t.write i data) j = stagingByte g t j := by
  obtain ⟨hdue, hwidth, hperiod, hlimit, hoffset⟩ := g.write_fields data h
  rw [stagingByte_field _ _ hj, stagingByte_field _ _ hj, hdue, hwidth, hperiod, hlimit, hoffset,
    t.write_fields data h hi]
  split_ifs <;> exact byteOf_writtenField_ne data _ _ _ (by omega) hij

/-- A byte of a whole field leaves the packed fields and the link. -/
theorem stagingByte_write_field_packed (h : 3 ≤ i) (hj : j < 3) :
    stagingByte (g.write i data) (t.write i data) j = stagingByte g t j := by
  have hsign : (t.write i data).negative = t.negative := by
    unfold StagedTime.write
    rw [if_neg (by omega)]
    split <;> rfl
  rw [Staging.write_field g data h]
  obtain rfl | rfl | rfl : j = 0 ∨ j = 1 ∨ j = 2 := by omega
  · simp only [stagingByte, hsign]
    split_ifs <;> rfl
  · simp only [stagingByte]
    split_ifs <;> rfl
  · simp only [stagingByte]
    split_ifs <;> rfl

/-- A byte of the packed fields, or the link, leaves every other byte. -/
theorem stagingByte_write_packed_ne (hi : i < 3) (hij : i ≠ j) :
    stagingByte (g.write i data) (t.write i data) j = stagingByte g t j := by
  have hfield : 3 ≤ j → stagingByte (g.write i data) (t.write i data) j = stagingByte g t j := fun hj => by
    rw [stagingByte_field _ _ hj, stagingByte_field _ _ hj]
    obtain rfl | rfl | rfl : i = 0 ∨ i = 1 ∨ i = 2 := by omega
    all_goals rfl
  obtain rfl | rfl | rfl | hj : j = 0 ∨ j = 1 ∨ j = 2 ∨ 3 ≤ j := by omega
  · obtain rfl | rfl : i = 1 ∨ i = 2 := by omega
    all_goals rfl
  · obtain rfl | rfl : i = 0 ∨ i = 2 := by omega
    all_goals rfl
  · obtain rfl | rfl : i = 0 ∨ i = 1 := by omega
    all_goals rfl
  · exact hfield hj

theorem stagingByte_write_ne (hi : i < 32) (hj : j < 32) (hij : i ≠ j) :
    stagingByte (g.write i data) (t.write i data) j = stagingByte g t j := by
  by_cases h : i < 3
  · exact stagingByte_write_packed_ne g t data h hij
  · by_cases h' : j < 3
    · exact stagingByte_write_field_packed g t data (by omega) h'
    · exact stagingByte_write_field_ne g t data (by omega) hi (by omega) hj hij

end

theorem getLsbD_of_toNat_lt {b : Byte} {m k : Nat} (h : b.toNat < 2 ^ m) (hk : m ≤ k) : b.getLsbD k = false :=
  Nat.testBit_lt_two_pow (lt_of_lt_of_le h (Nat.pow_le_pow_right (by decide) hk))

theorem ActionCode.code_lt (a : ActionCode) : a.code.toNat < 2 ^ 3 := by
  cases a <;> decide

/-- A code above 4 names no action and leaves the one that stands (R65). -/
theorem ActionCode.code_ofCode_getD (c : BitVec 3) (a : ActionCode) :
    ((ActionCode.ofCode c).getD a).code = if c.toNat ≤ 4 then c.setWidth 8 else a.code := by
  revert c
  cases a <;> decide

section
variable (g : Staging) (t : StagedTime) (data : Byte)

theorem stagingByte_write_zero {k : Nat} (hk : k < 8) :
    (stagingByte (g.write 0 data) (t.write 0 data) 0).getLsbD k =
      if (2 ≤ k ∧ k ≤ 4) ∧ 4 < data.toNat / 4 % 8 then (stagingByte g t 0).getLsbD k else data.getLsbD k := by
  have hcode : (data.extractLsb' 2 3).toNat = data.toNat / 4 % 8 := by
    rw [BitVec.extractLsb'_toNat, Nat.shiftRight_eq_div_pow]
  simp only [stagingByte, Staging.write, StagedTime.write, ActionCode.code_ofCode_getD, hcode, BitVec.getLsbD_or,
    BitVec.getLsbD_shiftLeft, if_pos]
  rw [getLsbD_bitAt 0 k _ (by decide), getLsbD_bitAt 1 k _ (by decide), getLsbD_bitAt 5 k _ (by decide),
    getLsbD_bitAt 6 k _ (by decide), getLsbD_bitAt 7 k _ (by decide), getLsbD_bitAt 0 k _ (by decide),
    getLsbD_bitAt 1 k _ (by decide), getLsbD_bitAt 5 k _ (by decide), getLsbD_bitAt 6 k _ (by decide),
    getLsbD_bitAt 7 k _ (by decide)]
  by_cases hlarge : 4 < data.toNat / 4 % 8
  · rw [if_neg (by omega)]
    have hhigh := fun (m : Nat) (hm : 3 ≤ m) => getLsbD_of_toNat_lt g.action.code_lt hm
    interval_cases k <;> simp [hlarge, hhigh 3, hhigh 4, hhigh 5, -BitVec.getLsbD_eq_getElem]
  · rw [if_pos (by omega)]
    interval_cases k <;> simp [hlarge]

theorem stagingByte_write_one : stagingByte (g.write 1 data) (t.write 1 data) 1 = data := by
  apply BitVec.eq_of_getLsbD_eq
  intro k hk
  simp only [stagingByte, Staging.write, BitVec.getLsbD_or]
  rw [getLsbD_bitAt 6 k _ (by decide), getLsbD_bitAt 7 k _ (by decide)]
  interval_cases k <;> simp

end

/-! ## The record through the port -/

section
variable {s : State} {i : Nat}

theorem State.readLive_staging (s : State) (h : i < 32) :
    s.readLive (BitVec.ofNat 7 (0x48 + i)) = stagingByte s.sched.staging s.tb.staged i := by
  have haddr : (BitVec.ofNat 7 (0x48 + i)).toNat = 0x48 + i := by
    rw [BitVec.toNat_ofNat]
    omega
  unfold State.readLive
  dsimp only
  rw [haddr, if_neg (by omega), if_neg (by omega), if_neg (by omega), if_pos (by omega), Nat.add_sub_cancel_left]

theorem State.deliverByte_staging (data : Byte) (h : i < 32) :
    s.deliverByte (BitVec.ofNat 7 (0x48 + i)) data = s.writeStaging i data := by
  have haddr : (BitVec.ofNat 7 (0x48 + i)).toNat = 0x48 + i := by
    rw [BitVec.toNat_ofNat]
    omega
  unfold State.deliverByte
  dsimp only
  rw [haddr, if_neg (by omega), if_neg (by omega), if_neg (by omega), if_pos (by omega), Nat.add_sub_cancel_left]

end

/-- Settles O50. -/
theorem stagingRecordReadsAsWritten : Obligations.StagingRecordReadsAsWritten := by
  unfold Obligations.StagingRecordReadsAsWritten
  intro i j data s hs hi hj at_
  have hread : ∀ x, x < 32 → ((s.writeStaging i data).stepWrite (at_ i)).readLive (at_ x) =
      stagingByte (s.sched.staging.write i data) (s.tb.staged.write i data) x := fun x hx => by
    rw [State.readLive_staging _ hx, (State.stepWrite_frame _ _).1, (State.stepWrite_frame _ _).2.2.1]
    rfl
  refine ⟨(s.writeStaging i data).stepWrite (at_ i), ?_, ?_, fun hcode => ?_, fun hi0 hcode k hk => ?_, fun hij => ?_⟩
  · rw [exec_registerWrite hs, State.deliverByte_staging data hi]
  · simp only [State.stepWrite_frame]
    rfl
  · rw [hread i hi]
    obtain rfl | rfl | rfl | h : i = 0 ∨ i = 1 ∨ i = 2 ∨ 3 ≤ i := by omega
    · refine BitVec.eq_of_getLsbD_eq fun k hk => ?_
      have := hcode rfl
      rw [stagingByte_write_zero _ _ _ hk, if_neg (by omega)]
    · exact stagingByte_write_one _ _ _
    · rfl
    · exact stagingByte_write_field_same _ _ _ h hi
  · subst hi0
    rw [hread 0 hi, stagingByte_write_zero _ _ _ hk, State.readLive_staging _ hi]
    simp only [hcode, and_true]
  · rw [hread j hj, State.readLive_staging _ hj, stagingByte_write_ne _ _ _ hi hj (Ne.symm hij)]

end Sys2Proof.Machine
end

section
/-! What bytes and records show (R80, R129, R180). -/
namespace Sys2Proof.Machine

/-! ## Bits and bytes -/

theorem bits_one (k : Nat) (b : Byte) : bits k 1 b = (b.getLsbD k).toNat :=
  (Nat.toNat_testBit b.toNat k).symm

/-- A field of a byte shows a number when its bits are those of the number. -/
theorem bits_eq_toNat {lo len w : Nat} {b : Byte} {c : BitVec w} (hc : c.toNat < 2 ^ len)
    (h : ∀ k, k < len → b.getLsbD (lo + k) = c.getLsbD k) : bits lo len b = c.toNat := by
  refine Nat.eq_of_testBit_eq fun k => ?_
  unfold bits
  rw [Nat.testBit_mod_two_pow, Nat.testBit_div_two_pow]
  by_cases hk : k < len
  · have hbit : b.toNat.testBit (lo + k) = c.toNat.testBit k := h k hk
    rw [decide_eq_true hk, Bool.true_and, Nat.add_comm, hbit]
  · have hlarge : c.toNat < 2 ^ k := lt_of_lt_of_le hc (Nat.pow_le_pow_right (by decide) (by omega))
    rw [decide_eq_false hk, Bool.false_and, Nat.testBit_lt_two_pow hlarge]

theorem getElem_bitAt (i k : Nat) (b : Bool) (hi : i < 8) (hk : k < 8) : (bitAt i b)[k] = (b && decide (k = i)) := by
  rw [← BitVec.getLsbD_eq_getElem, getLsbD_bitAt i k b hi]

theorem byteOf_toNat {w : Nat} (n i : Nat) (x : BitVec w) : (byteOf n i x).toNat = x.toNat / 256 ^ (n - 1 - i) % 256 := by
  rw [byteOf, BitVec.toNat_setWidth, BitVec.toNat_ushiftRight, Nat.shiftRight_eq_div_pow, Nat.pow_mul]

theorem ShowsBytes.of_byteOf {f : Nat → Byte} {n w : Nat} {x : BitVec w} (h : ∀ i, i < n → f i = byteOf n i x) :
    ShowsBytes f n x := fun i hi => by
  rw [h i hi, byteOf_toNat]

/-! ## Records of the queue -/

theorem headByte_time (r : Record) {i : Nat} (h : i < 7) : headByte (some r) (4 + i) = byteOf 7 i r.offer.time := by
  interval_cases i <;> rfl

theorem headByte_argument (r : Record) {i : Nat} (h : i < 3) :
    headByte (some r) (13 + i) = byteOf 3 i r.offer.body.argument := by
  interval_cases i <;> rfl

theorem showsRecord {f : Nat → Byte} {r : Option Record} (h : ∀ i, i < 16 → f i = headByte r i) : ShowsRecord f r := by
  cases r with
  | none => exact h
  | some r =>
    have hseq : ShowsBytes (fun i => f (1 + i)) 2 r.seq := .of_byteOf fun i hi => by
      rw [h _ (by omega)]
      interval_cases i <;> rfl
    have htime : ShowsBytes (fun i => f (4 + i)) 7 r.offer.time := .of_byteOf fun i hi => by
      rw [h _ (by omega), headByte_time r hi]
    have hargument : ShowsBytes (fun i => f (13 + i)) 3 r.offer.body.argument := .of_byteOf fun i hi => by
      rw [h _ (by omega), headByte_argument r hi]
    have hkind : f 0 = r.offer.body.kind := h 0 (by decide)
    have hsource : f 11 = r.offer.body.source := h 11 (by decide)
    have hflags : f 12 = r.offer.body.flags := h 12 (by decide)
    refine ⟨hseq, h 3 (by decide), htime, ?_⟩
    cases hbody : r.offer.body with
    | edge n rising frozen trigger q =>
      rw [hbody] at hkind hsource hflags hargument
      refine ⟨by rw [hkind]; rfl, ?_, ?_, hargument⟩
      · rw [hsource]
        fin_cases n <;> rfl
      · rw [hflags]
        cases rising <;> cases frozen <;> cases trigger <;> rfl
    | fire i late final miss lateness =>
      rw [hbody] at hkind hsource hflags hargument
      refine ⟨by rw [hkind]; rfl, ?_, ?_, hargument⟩
      · rw [hsource]
        fin_cases i <;> rfl
      · rw [hflags]
        cases late <;> cases final <;> cases miss <;> rfl
    | guard n frozen =>
      rw [hbody] at hkind hsource hflags
      have hzero : ∀ i, i < 3 → f (13 + i) = 0 := fun i hi => by
        rw [h _ (by omega), headByte_argument r hi, hbody]
        simp [byteOf, Body.argument]
      refine ⟨by rw [hkind]; rfl, ?_, ?_, hzero 0 (by decide), hzero 1 (by decide), hzero 2 (by decide)⟩
      · rw [hsource]
        fin_cases n <;> rfl
      · rw [hflags]
        cases frozen <;> rfl
    | step source backward amount =>
      rw [hbody] at hkind hsource hflags hargument
      refine ⟨by rw [hkind]; rfl, ?_, hargument, ?_⟩
      · rw [hflags]
        cases backward <;> rfl
      · rw [hsource]
        cases source <;> rfl

/-! ## View records -/

section
variable {f : Nat → Byte} {fresh : Nat} {p : Plan} {k : Kept} {late : Bool}

theorem Deed.line_isSome (d : Deed) : d.line.isSome = decide (d ≠ .none) := by
  cases d <;> rfl

theorem showsPresence (h : ∀ i, 2 ≤ i → i < 48 → f i = viewFieldByte fresh p k late i) : ShowsPresence f p k := by
  have h3 := h 3 (by decide) (by decide)
  have h4 := h 4 (by decide) (by decide)
  simp only [viewFieldByte] at h3 h4
  unfold ShowsPresence
  rw [h3, h4, ← Deed.line_isSome]
  simp [bits_one, getElem_bitAt]

/-- The bytes of a field that may be absent show it where it is present (R80). -/
theorem optionalByte_some {w : Nat} (off n i : Nat) (x : BitVec w) :
    optionalByte fresh off n i (some x) = byteOf n i x := rfl

theorem showsFields (h : ∀ i, 2 ≤ i → i < 48 → f i = viewFieldByte fresh p k late i) : ShowsFields f p k late := by
  have h2 := h 2 (by decide) (by decide)
  have h5 : f 5 = p.deed.code := h 5 (by decide) (by decide)
  have h6 := h 6 (by decide) (by decide)
  have h7 := h 7 (by decide) (by decide)
  have h43 := h 43 (by decide) (by decide)
  have hfield : ∀ {w : Nat} (a n : Nat) (x : BitVec w), 2 ≤ a → a + n ≤ 48 →
      (∀ i, i < n → viewFieldByte fresh p k late (a + i) = byteOf n i x) → ShowsBytes (fun i => f (a + i)) n x :=
    fun a n x ha hn hx => .of_byteOf fun i hi => by rw [h _ (by omega) (by omega), hx i hi]
  simp only [viewFieldByte] at h2 h6 h7 h43
  refine ⟨?_, showsPresence h, ?_, fun n hn => ?_, fun l hl => ?_, ?_, fun x hx => ?_, fun x hx => ?_, fun x hx => ?_,
    fun l hl => ?_, fun x hx => ?_, ?_, ?_, fun x hx => ?_, fun x hx => ?_, ?_⟩
  · rw [h2]
    cases p.late <;> simp [bits_one, getElem_bitAt]
  · rw [h5]
    cases p.deed <;> rfl
  · rw [h6, hn]
    fin_cases n <;> rfl
  · rw [h7, hl]
    obtain ⟨e, o⟩ := l
    fin_cases e <;> rfl
  · exact hfield 8 7 _ (by decide) (by decide) fun i hi => by interval_cases i <;> rfl
  · exact hfield 15 3 _ (by decide) (by decide) fun i hi => by interval_cases i <;> simp only [viewFieldByte, hx] <;> rfl
  · exact hfield 18 5 _ (by decide) (by decide) fun i hi => by interval_cases i <;> simp only [viewFieldByte, hx] <;> rfl
  · exact hfield 23 2 _ (by decide) (by decide) fun i hi => by interval_cases i <;> simp only [viewFieldByte, hx] <;> rfl
  · exact hfield 25 5 _ (by decide) (by decide) fun i hi => by interval_cases i <;> simp only [viewFieldByte, hl] <;> rfl
  · exact hfield 30 2 _ (by decide) (by decide) fun i hi => by interval_cases i <;> simp only [viewFieldByte, hx] <;> rfl
  · exact hfield 32 2 _ (by decide) (by decide) fun i hi => by interval_cases i <;> rfl
  · exact hfield 34 2 _ (by decide) (by decide) fun i hi => by interval_cases i <;> rfl
  · exact hfield 36 7 _ (by decide) (by decide) fun i hi => by interval_cases i <;> simp only [viewFieldByte, hx] <;> rfl
  · rw [h43, hx]
    simp [optionalByte, byteOf]
  · intro i hi hi'
    rw [h i (by omega) hi']
    interval_cases i <;> rfl

theorem View.byte_fields {v : View} {i : Nat} (h : v.entry.fields = some (p, k, late)) (hi : 2 ≤ i) :
    v.byte fresh i = viewFieldByte fresh p k late i := by
  obtain ⟨m, rfl⟩ := Nat.exists_eq_add_of_le' hi
  unfold View.byte
  rw [h]
  rfl

theorem View.byte_free {v : View} {i : Nat} (h : v.entry = .free) (hi : 1 ≤ i) : v.byte fresh i = 0 := by
  obtain ⟨m, rfl⟩ := Nat.exists_eq_add_of_le' hi
  cases m <;> simp only [View.byte, h] <;> rfl

theorem showsView {v : View} (h : ∀ i, i < 48 → f i = v.byte fresh i) : ShowsView f v := by
  have h0 : f 0 = BitVec.ofNat 8 v.index.val := h 0 (by decide)
  have h1 : f 1 = v.entry.stateByte := h 1 (by decide)
  refine ⟨?_, ?_⟩
  · rw [h0, BitVec.toNat_ofNat]
    omega
  · have hfields : ∀ {p k late}, v.entry.fields = some (p, k, late) → ShowsFields f p k late := fun hf =>
      showsFields fun i hi hi' => (h i hi').trans (View.byte_fields hf hi)
    cases hentry : v.entry with
    | free => exact fun i hi hi' => by rw [h i hi', View.byte_free hentry hi]
    | parked p k => exact ⟨by rw [h1, hentry]; rfl, hfields (by rw [hentry]; rfl)⟩
    | armed p k late => exact ⟨by rw [h1, hentry]; rfl, hfields (by rw [hentry]; rfl)⟩
    | done fate p k =>
      refine ⟨?_, hfields (by rw [hentry]; rfl)⟩
      rw [h1, hentry]
      cases fate <;> rfl

end

end Sys2Proof.Machine
end

section
/-! What the register window shows (R18, R57, R80, R85, R108, R123, R137, R157, R163 to R165, R173, R180). -/
namespace Sys2Proof.Machine

/-! ## Where an address is read -/

section
variable {s : State} {addr : Addr}

theorem State.readLive_time (h : addr.toNat < 0x08) :
    s.readLive addr = timeWindowByte s.tb.time s.tb.epoch addr.toNat := by
  unfold State.readLive
  exact if_pos h

theorem State.readLive_view (hp : s.sp.page = 0) (h : 0x08 ≤ addr.toNat) (h' : addr.toNat < 0x38) :
    s.readLive addr = s.sched.view.byte s.fresh (addr.toNat - 0x08) := by
  unfold State.readLive
  dsimp only
  rw [if_neg (by omega), if_pos h', hp]
  rfl

theorem State.readLive_page1 (hp : s.sp.page = 1) (h : 0x08 ≤ addr.toNat) (h' : addr.toNat < 0x38) :
    s.readLive addr = s.readPage1 addr.toNat := by
  unfold State.readLive
  dsimp only
  rw [if_neg (by omega), if_pos h', hp]
  rfl

theorem State.readLive_page2 (hp : s.sp.page = 2) (h : 0x08 ≤ addr.toNat) (h' : addr.toNat < 0x38) :
    s.readLive addr = s.readPage2 addr.toNat := by
  unfold State.readLive
  dsimp only
  rw [if_neg (by omega), if_pos h', hp]
  rfl

theorem State.readLive_head (h : 0x38 ≤ addr.toNat) (h' : addr.toNat < 0x48) :
    s.readLive addr = headByte s.trq.records.head? (addr.toNat - 0x38) := by
  unfold State.readLive
  dsimp only
  rw [if_neg (by omega), if_neg (by omega), if_pos h']

/-- Strobes read 0 (R174). -/
theorem State.readLive_strobe (h : 0x68 ≤ addr.toNat) (h' : addr.toNat < 0x7D) : s.readLive addr = 0 := by
  unfold State.readLive
  dsimp only
  rw [if_neg (by omega), if_neg (by omega), if_neg (by omega), if_neg (by omega), if_pos h']

end

/-! ## The capture lines -/

section
variable {s : State}

theorem State.readLive_capture (hp : s.sp.page = 1) (n : Fin 6) {i : Nat} (hi : i < 7) :
    s.readLive (BitVec.ofNat 7 (0x08 + 7 * n.val + i)) = (s.cap.get n).configByte s.fresh i := by
  have hn := n.isLt
  have haddr : (BitVec.ofNat 7 (0x08 + 7 * n.val + i)).toNat = 0x08 + 7 * n.val + i := by
    rw [BitVec.toNat_ofNat]
    omega
  have hline : (0x08 + 7 * n.val + i - 8) / 7 = n.val := by omega
  have hbyte : (0x08 + 7 * n.val + i - 8) % 7 = i := by omega
  rw [State.readLive_page1 hp (by omega) (by omega), haddr, State.readPage1, dif_pos (by omega), hbyte]
  congr 2
  exact Fin.ext hline

theorem State.showsCapture (hp : s.sp.page = 1) : s.ShowsCapture := by
  refine fun n => ?_
  dsimp only
  have hread : ∀ i, i < 7 → s.readLive (BitVec.ofNat 7 (0x08 + 7 * n.val + i)) = (s.cap.get n).configByte s.fresh i :=
    fun i hi => State.readLive_capture hp n hi
  rw [hread 0 (by decide), hread 1 (by decide), hread 2 (by decide)]
  refine ⟨?_, ?_, ?_, ?_, ?_, ?_, fun target ht => ?_, .of_byteOf fun i hi => ?_, fun a ha ha' => ?_⟩
  · simp [bits_one, CapLine.configByte, getElem_bitAt]
  · refine bits_eq_toNat (s.cap.get n).divisor.isLt fun k hk => ?_
    interval_cases k <;> simp [CapLine.configByte, getElem_bitAt]
  · refine bits_eq_toNat (s.cap.get n).qualMinus1.isLt fun k hk => ?_
    interval_cases k <;> simp [CapLine.configByte, getElem_bitAt]
  · rw [CapLine.configByte]
    cases (s.cap.get n).edges <;> cases (s.cap.get n).log <;> rfl
  · rw [CapLine.configByte]
    cases (s.cap.get n).edges <;> cases (s.cap.get n).log <;> rfl
  · cases hnone : (s.cap.get n).targetNone <;> simp [bits_one, CapLine.configByte, getElem_bitAt, hnone]
  · have hsome : (s.cap.get n).targetNone = false ∧ (s.cap.get n).target.toFin = target := by
      simpa [CapLine.trigger] using ht
    obtain ⟨hnone, rfl⟩ := hsome
    refine bits_eq_toNat (s.cap.get n).target.isLt fun k hk => ?_
    interval_cases k <;> simp [CapLine.configByte, hnone]
  · rw [hread (3 + i) (by omega)]
    interval_cases i <;> rfl
  · rw [State.readLive_page1 hp (by omega) ha', State.readPage1, dif_neg (by omega)]

/-! ## Configuration -/

theorem beq_eq_decide_eq {α : Type} [DecidableEq α] (a b : α) : (a == b) = decide (a = b) := rfl

theorem Level.isHigh_eq (v : Level) : v.isHigh = decide (v = .high) := by
  cases v <;> rfl

theorem SafeLevel.code_lt (v : SafeLevel) : v.code.toNat < 2 ^ 2 := by
  cases v <;> decide

/-- The two bits of each of four lines in a byte of modes and idle levels (R180). -/
theorem outConfigByte_bits (outs : Bank OutLine 8) (a b c d : Fin 8) :
    let x := outConfigByte outs a b c d
    let shows (lo : Nat) (n : Fin 8) : Prop :=
      bits lo 1 x = (decide ((outs.get n).mode = .driven)).toNat ∧
        bits (lo + 1) 1 x = (decide ((outs.get n).idle = .high)).toNat
    shows 0 a ∧ shows 2 b ∧ shows 4 c ∧ shows 6 d := by
  simp [bits_one, outConfigByte, getElem_bitAt, Level.isHigh_eq, beq_eq_decide_eq]

theorem safeByte_bits (safe : Bank SafeLevel 8) (a b c d : Fin 8) :
    let x := safeByte safe a b c d
    let shows (lo : Nat) (n : Fin 8) : Prop := bits lo 2 x = (safe.get n).code.toNat
    shows 0 a ∧ shows 2 b ∧ shows 4 c ∧ shows 6 d := by
  have hhigh := fun (v : SafeLevel) {k : Nat} (hk : 2 ≤ k) => getLsbD_of_toNat_lt v.code_lt hk
  refine ⟨?_, ?_, ?_, ?_⟩
  all_goals
    refine bits_eq_toNat (SafeLevel.code_lt _) fun k hk => ?_
    simp only [safeByte, BitVec.getLsbD_or, BitVec.getLsbD_shiftLeft]
    interval_cases k <;> simp [hhigh, -BitVec.getLsbD_eq_getElem]

theorem SafeLevel.code_toNat (v : SafeLevel) :
    v.code.toNat = match v with
      | .low => 0
      | .high => 1
      | .keep => 2 := by
  cases v <;> rfl

/-- Modes, idle levels and safe levels, four lines to a byte (R112, R154, R180). -/
theorem State.showsOutputs (hp : s.sp.page = 2) (n : Fin 8) :
    let at_ (a : Nat) : Byte := s.readLive (BitVec.ofNat 7 (a + n.val / 4))
    bits (2 * (n.val % 4)) 1 (at_ 0x08) = (decide ((s.outs.get n).mode = .driven)).toNat ∧
      bits (2 * (n.val % 4) + 1) 1 (at_ 0x08) = (decide ((s.outs.get n).idle = .high)).toNat ∧
        bits (2 * (n.val % 4)) 2 (at_ 0x0C) = (s.guard.safe.get n).code.toNat := by
  obtain ⟨⟨hm0, hi0⟩, ⟨hm1, hi1⟩, ⟨hm2, hi2⟩, hm3, hi3⟩ := outConfigByte_bits s.outs 0 1 2 3
  obtain ⟨⟨hm4, hi4⟩, ⟨hm5, hi5⟩, ⟨hm6, hi6⟩, hm7, hi7⟩ := outConfigByte_bits s.outs 4 5 6 7
  obtain ⟨hs0, hs1, hs2, hs3⟩ := safeByte_bits s.guard.safe 0 1 2 3
  obtain ⟨hs4, hs5, hs6, hs7⟩ := safeByte_bits s.guard.safe 4 5 6 7
  have h08 : s.readLive 0x08 = outConfigByte s.outs 0 1 2 3 := State.readLive_page2 hp (by decide) (by decide)
  have h09 : s.readLive 0x09 = outConfigByte s.outs 4 5 6 7 := State.readLive_page2 hp (by decide) (by decide)
  have h0C : s.readLive 0x0C = safeByte s.guard.safe 0 1 2 3 := State.readLive_page2 hp (by decide) (by decide)
  have h0D : s.readLive 0x0D = safeByte s.guard.safe 4 5 6 7 := State.readLive_page2 hp (by decide) (by decide)
  rw [← h08] at hm0 hi0 hm1 hi1 hm2 hi2 hm3 hi3
  rw [← h09] at hm4 hi4 hm5 hi5 hm6 hi6 hm7 hi7
  rw [← h0C] at hs0 hs1 hs2 hs3
  rw [← h0D] at hs4 hs5 hs6 hs7
  match n with
  | 0 => exact ⟨hm0, hi0, hs0⟩
  | 1 => exact ⟨hm1, hi1, hs1⟩
  | 2 => exact ⟨hm2, hi2, hs2⟩
  | 3 => exact ⟨hm3, hi3, hs3⟩
  | 4 => exact ⟨hm4, hi4, hs4⟩
  | 5 => exact ⟨hm5, hi5, hs5⟩
  | 6 => exact ⟨hm6, hi6, hs6⟩
  | 7 => exact ⟨hm7, hi7, hs7⟩

theorem GuardLine.configByte_bits (l : GuardLine) :
    bits 0 1 l.configByte = l.enabled.toNat ∧ bits 1 1 l.configByte = (decide (l.activeLevel = .high)).toNat ∧
      bits 4 4 l.configByte = l.qual.toNat := by
  refine ⟨?_, ?_, bits_eq_toNat l.qual.isLt fun k hk => ?_⟩
  · simp [bits_one, GuardLine.configByte, getElem_bitAt]
  · simp [bits_one, GuardLine.configByte, getElem_bitAt, Level.isHigh_eq]
  · interval_cases k <;> simp [GuardLine.configByte, getElem_bitAt]

theorem Trim.signByte_bits (t : Trim) :
    bits 7 1 t.signByte = (t.negative && decide (t.magnitude ≠ 0)).toNat ∧ bits 0 4 t.signByte = t.magnitude.toNat / 256 := by
  have hhigh : (t.magnitude >>> 8).toNat = t.magnitude.toNat / 256 := by
    rw [BitVec.toNat_ushiftRight, Nat.shiftRight_eq_div_pow]
  refine ⟨?_, ?_⟩
  · simp [bits_one, Trim.signByte, getElem_bitAt, bne, beq_eq_decide_eq]
  · rw [← hhigh]
    refine bits_eq_toNat (by have := t.magnitude.isLt; omega) fun k hk => ?_
    interval_cases k <;> simp [Trim.signByte, getElem_bitAt]

theorem RecordQueue.configByte_bits (q : RecordQueue) :
    bits 0 6 q.configByte = q.threshold.toNat ∧ bits 6 1 q.configByte = (decide (q.policy = .keepNewest)).toNat ∧
      bits 7 1 q.configByte = q.autoPop.toNat := by
  refine ⟨bits_eq_toNat q.threshold.isLt fun k hk => ?_, ?_, ?_⟩
  · interval_cases k <;> simp [RecordQueue.configByte, getElem_bitAt]
  · simp [bits_one, RecordQueue.configByte, getElem_bitAt, beq_eq_decide_eq]
  · simp [bits_one, RecordQueue.configByte, getElem_bitAt]

theorem State.showsConfiguration (hp : s.sp.page = 2) : s.ShowsConfiguration := by
  have h0A : s.readLive 0x0A = (s.guard.lines.get 0).configByte := State.readLive_page2 hp (by decide) (by decide)
  have h0B : s.readLive 0x0B = (s.guard.lines.get 1).configByte := State.readLive_page2 hp (by decide) (by decide)
  have h0E : s.readLive 0x0E = s.tb.written.signByte := State.readLive_page2 hp (by decide) (by decide)
  have h0F : s.readLive 0x0F = s.tb.written.magnitude.setWidth 8 := State.readLive_page2 hp (by decide) (by decide)
  have h10 : s.readLive 0x10 = s.tb.written.window.code := State.readLive_page2 hp (by decide) (by decide)
  have h11 : s.readLive 0x11 = s.tb.rate.setWidth 8 := State.readLive_page2 hp (by decide) (by decide)
  have h12 : s.readLive 0x12 = s.trq.configByte := State.readLive_page2 hp (by decide) (by decide)
  unfold State.ShowsConfiguration
  rw [h0E, h0F, h10, h11, h12]
  refine ⟨fun n => ?_, fun n => ?_, ?_, ?_, s.trq.configByte_bits⟩
  · have houtputs := State.showsOutputs hp n
    rw [SafeLevel.code_toNat] at houtputs
    exact houtputs
  · match n with
    | 0 => exact h0A ▸ GuardLine.configByte_bits _
    | 1 => exact h0B ▸ GuardLine.configByte_bits _
  · obtain ⟨hsign, hhigh⟩ := s.tb.written.signByte_bits
    refine ⟨hsign, hhigh, BitVec.toNat_setWidth _ _, ?_⟩
    cases s.tb.written.window <;> rfl
  · rw [BitVec.toNat_setWidth]
    have := s.tb.rate.isLt
    omega

end

end Sys2Proof.Machine
end

section
/-! What the status registers show (R18, R57, R85, R108, R123, R137, R157, R165, R180), and the reads and fetches of the port
(R171, R172, R177). -/
namespace Sys2Proof.Machine

/-! ## Lines and timebase -/

theorem nibble_getLsbD_high (a b c d : Bool) {k : Nat} (h : 4 ≤ k) : (nibble a b c d).getLsbD k = false := by
  unfold nibble
  simp only [BitVec.getLsbD_or]
  rw [getLsbD_bitAt 0 k _ (by decide), getLsbD_bitAt 1 k _ (by decide), getLsbD_bitAt 2 k _ (by decide),
    getLsbD_bitAt 3 k _ (by decide)]
  simp
  omega

/-- The status of two lines in one byte: the bits of the first, then those of the second (R57, R123). -/
theorem twoNibbles_bits (a b c d a' b' c' d' : Bool) :
    let x := twoNibbles (nibble a b c d) (nibble a' b' c' d')
    (bits 0 1 x = a.toNat ∧ bits 1 1 x = b.toNat ∧ bits 2 1 x = c.toNat ∧ bits 3 1 x = d.toNat) ∧
      bits 4 1 x = a'.toNat ∧ bits 5 1 x = b'.toNat ∧ bits 6 1 x = c'.toNat ∧ bits 7 1 x = d'.toNat := by
  simp [bits_one, twoNibbles, nibble, getElem_bitAt]

/-- A status byte of two lines shows line `n` in its half of the byte. -/
theorem pairStatus_bits {α : Type} {m : Nat} (bank : Bank α m) (b0 b1 b2 b3 : α → Bool) (n e o : Fin m)
    (he : e.val = 2 * (n.val / 2)) (ho : o.val = 2 * (n.val / 2) + 1) :
    let status (x : α) : Byte := nibble (b0 x) (b1 x) (b2 x) (b3 x)
    let x := twoNibbles (status (bank.get e)) (status (bank.get o))
    let at_ := 4 * (n.val % 2)
    bits at_ 1 x = (b0 (bank.get n)).toNat ∧ bits (at_ + 1) 1 x = (b1 (bank.get n)).toNat ∧
      bits (at_ + 2) 1 x = (b2 (bank.get n)).toNat ∧ bits (at_ + 3) 1 x = (b3 (bank.get n)).toNat := by
  intro status x at_
  obtain ⟨hfirst, hsecond⟩ := twoNibbles_bits (b0 (bank.get e)) (b1 (bank.get e)) (b2 (bank.get e)) (b3 (bank.get e))
    (b0 (bank.get o)) (b1 (bank.get o)) (b2 (bank.get o)) (b3 (bank.get o))
  rcases Nat.mod_two_eq_zero_or_one n.val with hpar | hpar
  · have hn : n = e := Fin.ext (by omega)
    have hat : at_ = 0 := by omega
    rw [hat, hn]
    exact hfirst
  · have hn : n = o := Fin.ext (by omega)
    have hat : at_ = 4 := by omega
    rw [hat, hn]
    exact hsecond

theorem bits_two (k : Nat) (b : Byte) : bits k 2 b = bits k 1 b + 2 * bits (k + 1) 1 b := by
  have hpow : 2 ^ (k + 1) = 2 ^ k * 2 := rfl
  unfold bits
  rw [hpow, ← Nat.div_div_eq_div_mul]
  omega

/-- Two bits that show a qualified level (R57). -/
theorem level_bits (v : Option Level) :
    (v == some .low).toNat + 2 * (v == some .high).toNat = match v with
      | none => 0
      | some .low => 1
      | some .high => 2 := by
  rcases v with _ | _ | _ <;> rfl

theorem Timebase.status_bits (tb : Timebase) :
    bits 7 1 tb.status = tb.trimPending.toNat ∧
      (bits 0 2 tb.status, bits 2 1 tb.status, bits 3 3 tb.status) = match tb.state with
        | .stopped => (0, 0, 0)
        | .running => (1, 0, 0)
        | .slewing _ => (2, 0, 0)
        | .slewEnding => (2, 0, 0)
        | .awaitEdge w => (3, w.frozen.toNat, w.line.val) := by
  unfold Timebase.status
  cases tb.state with
  | awaitEdge w =>
    dsimp only
    generalize w.line = n
    cases w.frozen <;> cases tb.trimPending <;> fin_cases n <;> decide
  | slewing sl =>
    dsimp only
    cases tb.trimPending <;> decide
  | stopped | running | slewEnding => cases tb.trimPending <;> decide

section
variable {s : State}

theorem State.showsLines (hp : s.sp.page = 2) : s.ShowsLines := by
  have h13 : s.readLive 0x13 = s.tb.status := State.readLive_page2 hp (by decide) (by decide)
  have h14 : s.readLive 0x14 = s.sp.snapshot.status := State.readLive_page2 hp (by decide) (by decide)
  refine ⟨?_, h14, fun n => ?_, fun n => ?_⟩
  · rw [h13]
    exact s.tb.status_bits
  · have hread : s.readLive (BitVec.ofNat 7 (0x15 + n.val / 2)) =
        twoNibbles (s.cap.get ⟨2 * (n.val / 2), by omega⟩).status (s.cap.get ⟨2 * (n.val / 2) + 1, by omega⟩).status := by
      fin_cases n <;> exact State.readLive_page2 hp (by decide) (by decide)
    obtain ⟨henabled, hlow, hhigh, hrun⟩ := pairStatus_bits s.cap CapLine.enabled (fun l => l.level == some .low)
      (fun l => l.level == some .high) (fun l => l.run.isSome) n
      ⟨2 * (n.val / 2), by omega⟩ ⟨2 * (n.val / 2) + 1, by omega⟩ rfl rfl
    dsimp only
    rw [hread, bits_two]
    exact ⟨henabled, hrun, (congrArg₂ (fun x y => x + 2 * y) hlow hhigh).trans (level_bits _)⟩
  · have hread : s.readLive (BitVec.ofNat 7 (0x18 + n.val / 2)) =
        twoNibbles (s.outs.get ⟨2 * (n.val / 2), by omega⟩).status (s.outs.get ⟨2 * (n.val / 2) + 1, by omega⟩).status := by
      fin_cases n <;> exact State.readLive_page2 hp (by decide) (by decide)
    have hbits := pairStatus_bits s.outs (fun l => l.mode == .driven) (fun l => l.idle.isHigh) (fun l => l.level.isHigh)
      (fun l => l.pulse.isSome) n ⟨2 * (n.val / 2), by omega⟩ ⟨2 * (n.val / 2) + 1, by omega⟩ rfl rfl
    simp only [Level.isHigh_eq] at hbits
    dsimp only
    rw [hread]
    simp only [OutLine.status, Level.isHigh_eq]
    exact hbits

/-! ## Guard unit, dispatcher, queue and results -/

theorem GuardState.code_lt (v : GuardState) : v.code.toNat < 2 ^ 2 := by
  cases v <;> simp [GuardState.code]

theorem GuardUnit.status_bits (g : GuardUnit) :
    bits 0 1 g.status = g.tripped.toNat ∧ ∀ n : Fin 2,
      bits (1 + 3 * n.val) 1 g.status = (g.lines.get n).enabled.toNat ∧
        bits (2 + 3 * n.val) 2 g.status = (g.lines.get n).state.code.toNat := by
  have hbit : ∀ k, k < 8 → g.status.getLsbD k = (g.tripped && decide (k = 0) || (g.lines.get 0).enabled && decide (k = 1) ||
      decide (2 ≤ k) && (g.lines.get 0).state.code.getLsbD (k - 2) || (g.lines.get 1).enabled && decide (k = 4) ||
      decide (5 ≤ k) && (g.lines.get 1).state.code.getLsbD (k - 5)) := fun k hk => by
    simp only [GuardUnit.status, BitVec.getLsbD_or, BitVec.getLsbD_shiftLeft]
    rw [getLsbD_bitAt 0 k _ (by decide), getLsbD_bitAt 1 k _ (by decide), getLsbD_bitAt 4 k _ (by decide)]
    interval_cases k <;> simp
  have h0 := fun {k : Nat} (hk : 2 ≤ k) => getLsbD_of_toNat_lt (g.lines.get 0).state.code_lt hk
  refine ⟨?_, fun n => ?_⟩
  · rw [bits_one, hbit 0 (by decide)]
    simp
  · match n with
    | 0 =>
      refine ⟨?_, bits_eq_toNat (GuardState.code_lt _) fun k hk => ?_⟩
      · rw [bits_one, hbit _ (by decide)]
        simp
      · rw [hbit _ (by simp; omega)]
        interval_cases k <;> simp
    | 1 =>
      refine ⟨?_, bits_eq_toNat (GuardState.code_lt _) fun k hk => ?_⟩
      · rw [bits_one, hbit _ (by decide)]
        simp [h0, -BitVec.getLsbD_eq_getElem]
      · rw [hbit _ (by simp; omega)]
        interval_cases k <;> simp [h0, -BitVec.getLsbD_eq_getElem]

theorem Bank.count_eq {α : Type} {n : Nat} (b : Bank α n) (p : α → Bool) :
    b.count p = ((List.finRange n).filter fun i => p (b.get i)).length := by
  obtain ⟨l, rfl⟩ := b
  have hl : (List.finRange l.length).map l.get = l := List.map_get_finRange l
  rw [Bank.count, ← List.countP_eq_length_filter]
  conv_lhs => rw [← hl, List.countP_map]
  rfl

theorem dueCount_eq (s : State) :
    dueCount s.sched.entries = ((List.finRange 32).filter fun i => (s.entry i).isArmed).length :=
  Bank.count_eq _ _

theorem dueCount_le (es : Bank Entry 32) : dueCount es ≤ 32 :=
  List.countP_le_length.trans_eq es.property

theorem headIndexByte_none {fresh : Nat} {es : Bank Entry 32} (h : dueHead es = none) :
    bits 7 1 (headIndexByte fresh es) = 1 := by
  simp [bits_one, headIndexByte, h, getElem_bitAt]

theorem headIndexByte_some {fresh : Nat} {es : Bank Entry 32} {i : Fin 32} (h : dueHead es = some i) :
    bits 7 1 (headIndexByte fresh es) = 0 ∧ bits 0 5 (headIndexByte fresh es) = i.val := by
  unfold headIndexByte
  rw [h]
  dsimp only
  clear h
  revert i
  decide

theorem GuardState.code_toNat (v : GuardState) :
    v.code.toNat = match v with
      | .inactive => 0
      | .toActive _ => 1
      | .active => 2
      | .toInactive _ => 3 := by
  cases v <;> rfl

theorem State.readPage2_identity {a : Nat} (h : 0x26 ≤ a) : s.readPage2 a = (Config.identity[a - 0x26]?).getD 0 := by
  unfold State.readPage2
  split
  case h_31 => rfl
  all_goals omega

theorem State.showsStatus (hp : s.sp.page = 2) : s.ShowsStatus := by
  have h1C : s.readLive 0x1C = s.guard.status := State.readLive_page2 hp (by decide) (by decide)
  have h1D : s.readLive 0x1D = bitAt 0 s.disp.holdHost ||| bitAt 1 s.disp.holdGuard |||
      (BitVec.ofNat 8 (dueCount s.sched.entries) <<< 2) := State.readLive_page2 hp (by decide) (by decide)
  have h1E : s.readLive 0x1E = headIndexByte s.fresh s.sched.entries := State.readLive_page2 hp (by decide) (by decide)
  have h1F : s.readLive 0x1F = BitVec.ofNat 8 s.trq.records.length := State.readLive_page2 hp (by decide) (by decide)
  have h22 : s.readLive 0x22 = s.disp.fault.reason := State.readLive_page2 hp (by decide) (by decide)
  have h23 : s.readLive 0x23 = s.disp.fault.index := State.readLive_page2 hp (by decide) (by decide)
  have h24 : s.readLive 0x24 = s.icu.result.strobe := State.readLive_page2 hp (by decide) (by decide)
  have h25 : s.readLive 0x25 = s.icu.result.code.byte := State.readLive_page2 hp (by decide) (by decide)
  unfold State.ShowsStatus
  rw [h1C, h1D, h1E, h1F, h22, h23, h24, h25, ← dueCount_eq]
  refine ⟨fun n => ?_, s.guard.status_bits.1, ?_, ?_, ?_, ?_, fun h => ?_, .of_byteOf fun i hi => ?_, ?_, rfl, ?_, ?_,
    fun a ha ha' => ?_⟩
  · have hline := s.guard.status_bits.2 n
    rw [GuardState.code_toNat] at hline
    exact hline
  · simp [bits_one, getElem_bitAt]
  · simp [bits_one, getElem_bitAt]
  · have hle := dueCount_le s.sched.entries
    have hcount : (BitVec.ofNat 8 (dueCount s.sched.entries)).toNat = dueCount s.sched.entries := by
      rw [BitVec.toNat_ofNat]
      omega
    generalize BitVec.ofNat 8 (dueCount s.sched.entries) = c at hcount ⊢
    rw [← hcount]
    refine bits_eq_toNat (by omega) fun k hk => ?_
    interval_cases k <;> simp [getElem_bitAt]
  · cases hhead : dueHead s.sched.entries with
    | none => exact headIndexByte_none hhead
    | some i => exact headIndexByte_some hhead
  · rw [BitVec.toNat_ofNat]
    omega
  · interval_cases i <;> exact State.readLive_page2 hp (by decide) (by decide)
  · cases s.disp.fault with
    | none => rfl
    | linkMiss i | trigMiss i | trigStale i => fin_cases i <;> rfl
  · cases s.icu.result.code <;> rfl
  · have h26 : s.readLive 0x26 = 86 := State.readLive_page2 hp (by decide) (by decide)
    have h27 : s.readLive 0x27 = 74 := State.readLive_page2 hp (by decide) (by decide)
    have h28 : s.readLive 0x28 = 26 := State.readLive_page2 hp (by decide) (by decide)
    have h29 : s.readLive 0x29 = 10 := State.readLive_page2 hp (by decide) (by decide)
    have h2A : s.readLive 0x2A = 1 := State.readLive_page2 hp (by decide) (by decide)
    rw [h26, h27, h28, h29, h2A]
  · rw [State.readLive_page2 hp (by omega) ha', State.readPage2_identity (by omega),
      List.getElem?_eq_none (by simp [Config.identity]; omega)]
    rfl

end

end Sys2Proof.Machine
end

section
/-! What the register window shows at every address, and the reads and fetches of the port (R171, R172, R177, R180). -/
namespace Sys2Proof.Machine

section
variable (s : State)

theorem State.showsStaging : s.ShowsStaging := by
  have hread : ∀ i, i < 32 →
      s.readLive (BitVec.ofNat 7 (0x48 + i)) = stagingByte s.sched.staging s.tb.staged i := fun i hi => s.readLive_staging hi
  unfold State.ShowsStaging
  dsimp only
  rw [hread 0 (by decide), hread 1 (by decide), hread 2 (by decide)]
  have hfield : ∀ {w : Nat} (a n : Nat) (x : BitVec w), a + n ≤ 32 →
      (∀ i, i < n → stagingByte s.sched.staging s.tb.staged (a + i) = byteOf n i x) →
        ShowsBytes (fun i => s.readLive (BitVec.ofNat 7 (0x48 + (a + i)))) n x :=
    fun a n x ha hx => .of_byteOf fun i hi => by rw [hread _ (by omega), hx i hi]
  have haction : ∀ k, 3 ≤ k → s.sched.staging.action.code.getLsbD k = false :=
    fun k hk => getLsbD_of_toNat_lt s.sched.staging.action.code_lt hk
  have hcode : s.sched.staging.action.code.toNat = match s.sched.staging.action with
      | .none => 0
      | .set => 1
      | .clear => 2
      | .toggle => 3
      | .pulse => 4 := by
    cases s.sched.staging.action <;> rfl
  refine ⟨?_, ?_, ?_, ?_, ?_, ?_, ?_, ?_, ?_, rfl, ?_, ?_, ?_, ?_, ?_, ?_⟩
  · simp [bits_one, stagingByte, getElem_bitAt]
  · simp [bits_one, stagingByte, getElem_bitAt]
  · refine (bits_eq_toNat s.sched.staging.action.code_lt fun k hk => ?_).trans hcode
    interval_cases k <;> simp [stagingByte, getElem_bitAt]
  · simp [bits_one, stagingByte, getLsbD_bitAt, haction, -BitVec.getLsbD_eq_getElem]
  · simp [bits_one, stagingByte, getLsbD_bitAt, haction, -BitVec.getLsbD_eq_getElem]
  · simp [bits_one, stagingByte, getLsbD_bitAt, haction, -BitVec.getLsbD_eq_getElem]
  · refine bits_eq_toNat s.sched.staging.line.isLt fun k hk => ?_
    interval_cases k <;> simp [stagingByte, getElem_bitAt]
  · simp [bits_one, stagingByte, getElem_bitAt]
  · simp [bits_one, stagingByte, getElem_bitAt]
  · exact hfield 3 7 _ (by decide) fun i hi => by interval_cases i <;> rfl
  · exact hfield 10 3 _ (by decide) fun i hi => by interval_cases i <;> rfl
  · exact hfield 13 5 _ (by decide) fun i hi => by interval_cases i <;> rfl
  · exact hfield 18 2 _ (by decide) fun i hi => by interval_cases i <;> rfl
  · exact hfield 20 5 _ (by decide) fun i hi => by interval_cases i <;> rfl
  · exact hfield 25 7 _ (by decide) fun i hi => by interval_cases i <;> rfl

theorem State.showsInterrupts : s.ShowsInterrupts := by
  have h7E : s.readLive 0x7E = s.pendingByte := rfl
  have h7F : s.readLive 0x7F = s.icu.enables.setWidth 8 := rfl
  unfold State.ShowsInterrupts
  rw [h7E, h7F]
  simp only [bits_one, State.pendingByte_getLsbD, State.qlevel]
  refine ⟨by simp, by simp, by simp, by simp, by simp, by simp, bits_eq_toNat s.icu.enables.isLt fun k hk => ?_⟩
  interval_cases k <;> simp

theorem State.windowShows : s.WindowShows := by
  have hview : s.sp.page = 0 → ∀ i, i < 48 → s.readLive (BitVec.ofNat 7 (0x08 + i)) = s.sched.view.byte s.fresh i :=
    fun hp i hi => by
      have haddr : (BitVec.ofNat 7 (0x08 + i)).toNat = 0x08 + i := by
        rw [BitVec.toNat_ofNat]
        omega
      rw [State.readLive_view hp (by omega) (by omega), haddr, Nat.add_sub_cancel_left]
  refine ⟨.of_byteOf fun i hi => ?_, rfl, fun hp => showsView (hview hp), State.showsCapture,
    fun hp => ⟨State.showsConfiguration hp, State.showsLines hp, State.showsStatus hp⟩, showsRecord fun i hi => ?_,
    s.showsStaging, fun a ha ha' => State.readLive_strobe ha ha', ?_, s.showsInterrupts⟩
  · interval_cases i <;> rfl
  · have haddr : (BitVec.ofNat 7 (0x38 + i)).toNat = 0x38 + i := by
      rw [BitVec.toNat_ofNat]
      omega
    rw [State.readLive_head (by omega) (by omega), haddr, Nat.add_sub_cancel_left]
  · have hpage : s.readLive 0x7D = BitVec.ofNat 8 s.sp.page.val := rfl
    rw [hpage, BitVec.toNat_ofNat]
    omega

end

/-! ## Reads, fetches and the address pointer -/

theorem nextAddr_toNat (page : Fin 3) (p : Addr) :
    (nextAddr page p).toNat =
      if p.toNat < 0x08 then (p.toNat + 1) % 8
      else if p.toNat < 0x38 then (if page = 0 then 8 + (p.toNat - 8 + 1) % 48 else p.toNat + 1)
      else if p.toNat < 0x48 then 0x38 + (p.toNat - 0x38 + 1) % 16
      else if p.toNat < 0x68 then 0x48 + (p.toNat - 0x48 + 1) % 32
      else if p.toNat < 0x7D then p.toNat
      else (p.toNat + 1) % 128 := by
  have hp := p.isLt
  have hstep : (p + 1).toNat = (p.toNat + 1) % 128 := BitVec.toNat_add _ _
  unfold nextAddr
  dsimp only
  simp only [apply_ite BitVec.toNat, hstep, BitVec.reduceToNat]
  split_ifs <;> omega

section
variable {s : State} {p : Addr} {src : Source}

theorem exec_readDataByte (hr : s.resetLow = false) (htx : s.sp.tx = .reading p src) (hdue : s.sp.fetchDue = false) :
    exec .readDataByte s = .next { s with sp := { s.sp with
      read := s.sp.shift
      fetchDue := true
      tx := .reading (nextAddr s.sp.page p) (src.noteRead p) } } := by
  have hfetch : s.fetch = s := by
    unfold State.fetch
    rw [hdue]
  refine congrArg Host.Outcome.next ?_
  unfold State.readByte
  rw [if_neg (by simp [hr]), hfetch]
  dsimp only
  rw [htx]
  rfl

theorem State.fetch_sp (htx : s.sp.tx = .reading p src) (hdue : s.sp.fetchDue = true) :
    s.fetch.sp = { s.sp with shift := s.readFrom src p, fetchDue := false } := by
  unfold State.fetch
  rw [hdue, htx]
  rfl

end

/-- Settles O53. -/
theorem readDataByteStepsThePointer : Obligations.ReadDataByteStepsThePointer := by
  unfold Obligations.ReadDataByteStepsThePointer
  refine ⟨fun s p src hr htx hdue => ?_, fun s p src htx hdue => ?_, State.windowShows, nextAddr_toNat⟩
  · rw [exec_readDataByte hr htx hdue]
    cases src <;> rfl
  · rw [State.fetch_sp htx hdue]
    refine ⟨rfl, ?_⟩
    cases src with
    | live => rfl
    | snapshot =>
      intro hp
      dsimp only [State.readFrom, timeWindowByte]
      split
      · rfl
      · refine BitVec.eq_of_toNat_eq ?_
        rw [byteOf_toNat, BitVec.toNat_ofNat]
    | head copy last => exact ⟨headByte copy, showsRecord fun _ _ => rfl, fun _ _ => rfl⟩

end Sys2Proof.Machine
end
